-- ==== Sys2Proof/Word.lean ====
section
/-! DEFINITION. The two word widths of the hardware (spec/00_scope.md R11). -/

namespace Sys2Proof

/-- A byte: 8 bits, unsigned (R11). -/
abbrev Byte := BitVec 8

/-- A register value, a request parameter or a CRC: 16 bits, unsigned (R8 `REG_W`, R11). -/
abbrev Word := BitVec 16

end Sys2Proof
end

