-- ==== Sys2Proof/Syntax.lean ====
section
/-! DEFINITION. The syntax: the 8-byte request frame (spec/30_encoding.md R62) and one constructor of `Instr` per row of
spec/opcode_table.json (R70). -/

namespace Sys2Proof

/-- The request format `REQ` of R62: eight bytes, named by their offsets 0 to 7. It is also the shape of the request
buffer `req[0..7]` (spec/10_state.md R25). -/
structure Frame where
  /-- Offset 0: slave address the request is meant for. -/
  addr : Byte
  /-- Offset 1: function code, the whole opcode (R64). -/
  func : Byte
  /-- Offset 2: `P1` bits 15 to 8. -/
  p1Hi : Byte
  /-- Offset 3: `P1` bits 7 to 0. -/
  p1Lo : Byte
  /-- Offset 4: `P2` bits 15 to 8. -/
  p2Hi : Byte
  /-- Offset 5: `P2` bits 7 to 0. -/
  p2Lo : Byte
  /-- Offset 6: low byte of the CRC. -/
  crcLo : Byte
  /-- Offset 7: high byte of the CRC. -/
  crcHi : Byte
  deriving DecidableEq, Repr

/-- The fields of a request, assembled (R65, R66). -/
structure Fields where
  /-- `req[0]`. -/
  addr : Byte
  /-- `req[1]`. -/
  func : Byte
  /-- `P1`, big-endian of bytes 2 and 3. -/
  p1 : Word
  /-- `P2`, big-endian of bytes 4 and 5. -/
  p2 : Word
  /-- `crc_rx`, little-endian of bytes 6 and 7. -/
  crc : Word
  deriving DecidableEq, Repr

/-- The operations, one constructor per function code (R70), with the operands the operation interprets (R78): `READ` a
start address and a count, `WRITE` a register and a value, an unsupported code none (R118). The address and CRC fields
are no part of the operation but conditions of its execution (R71): they stand in `Request`. -/
inductive Instr where
  /-- Function code 0x03, Read Holding Registers (R112). -/
  | read (start count : Word)
  /-- Function code 0x06, Write Single Register (R115). -/
  | write (reg value : Word)
  | unsupported00 | unsupported01 | unsupported02 | unsupported04 | unsupported05 | unsupported07
  | unsupported08 | unsupported09 | unsupported0A | unsupported0B | unsupported0C | unsupported0D
  | unsupported0E | unsupported0F | unsupported10 | unsupported11 | unsupported12 | unsupported13
  | unsupported14 | unsupported15 | unsupported16 | unsupported17 | unsupported18 | unsupported19
  | unsupported1A | unsupported1B | unsupported1C | unsupported1D | unsupported1E | unsupported1F
  | unsupported20 | unsupported21 | unsupported22 | unsupported23 | unsupported24 | unsupported25
  | unsupported26 | unsupported27 | unsupported28 | unsupported29 | unsupported2A | unsupported2B
  | unsupported2C | unsupported2D | unsupported2E | unsupported2F | unsupported30 | unsupported31
  | unsupported32 | unsupported33 | unsupported34 | unsupported35 | unsupported36 | unsupported37
  | unsupported38 | unsupported39 | unsupported3A | unsupported3B | unsupported3C | unsupported3D
  | unsupported3E | unsupported3F | unsupported40 | unsupported41 | unsupported42 | unsupported43
  | unsupported44 | unsupported45 | unsupported46 | unsupported47 | unsupported48 | unsupported49
  | unsupported4A | unsupported4B | unsupported4C | unsupported4D | unsupported4E | unsupported4F
  | unsupported50 | unsupported51 | unsupported52 | unsupported53 | unsupported54 | unsupported55
  | unsupported56 | unsupported57 | unsupported58 | unsupported59 | unsupported5A | unsupported5B
  | unsupported5C | unsupported5D | unsupported5E | unsupported5F | unsupported60 | unsupported61
  | unsupported62 | unsupported63 | unsupported64 | unsupported65 | unsupported66 | unsupported67
  | unsupported68 | unsupported69 | unsupported6A | unsupported6B | unsupported6C | unsupported6D
  | unsupported6E | unsupported6F | unsupported70 | unsupported71 | unsupported72 | unsupported73
  | unsupported74 | unsupported75 | unsupported76 | unsupported77 | unsupported78 | unsupported79
  | unsupported7A | unsupported7B | unsupported7C | unsupported7D | unsupported7E | unsupported7F
  | unsupported80 | unsupported81 | unsupported82 | unsupported83 | unsupported84 | unsupported85
  | unsupported86 | unsupported87 | unsupported88 | unsupported89 | unsupported8A | unsupported8B
  | unsupported8C | unsupported8D | unsupported8E | unsupported8F | unsupported90 | unsupported91
  | unsupported92 | unsupported93 | unsupported94 | unsupported95 | unsupported96 | unsupported97
  | unsupported98 | unsupported99 | unsupported9A | unsupported9B | unsupported9C | unsupported9D
  | unsupported9E | unsupported9F | unsupportedA0 | unsupportedA1 | unsupportedA2 | unsupportedA3
  | unsupportedA4 | unsupportedA5 | unsupportedA6 | unsupportedA7 | unsupportedA8 | unsupportedA9
  | unsupportedAA | unsupportedAB | unsupportedAC | unsupportedAD | unsupportedAE | unsupportedAF
  | unsupportedB0 | unsupportedB1 | unsupportedB2 | unsupportedB3 | unsupportedB4 | unsupportedB5
  | unsupportedB6 | unsupportedB7 | unsupportedB8 | unsupportedB9 | unsupportedBA | unsupportedBB
  | unsupportedBC | unsupportedBD | unsupportedBE | unsupportedBF | unsupportedC0 | unsupportedC1
  | unsupportedC2 | unsupportedC3 | unsupportedC4 | unsupportedC5 | unsupportedC6 | unsupportedC7
  | unsupportedC8 | unsupportedC9 | unsupportedCA | unsupportedCB | unsupportedCC | unsupportedCD
  | unsupportedCE | unsupportedCF | unsupportedD0 | unsupportedD1 | unsupportedD2 | unsupportedD3
  | unsupportedD4 | unsupportedD5 | unsupportedD6 | unsupportedD7 | unsupportedD8 | unsupportedD9
  | unsupportedDA | unsupportedDB | unsupportedDC | unsupportedDD | unsupportedDE | unsupportedDF
  | unsupportedE0 | unsupportedE1 | unsupportedE2 | unsupportedE3 | unsupportedE4 | unsupportedE5
  | unsupportedE6 | unsupportedE7 | unsupportedE8 | unsupportedE9 | unsupportedEA | unsupportedEB
  | unsupportedEC | unsupportedED | unsupportedEE | unsupportedEF | unsupportedF0 | unsupportedF1
  | unsupportedF2 | unsupportedF3 | unsupportedF4 | unsupportedF5 | unsupportedF6 | unsupportedF7
  | unsupportedF8 | unsupportedF9 | unsupportedFA | unsupportedFB | unsupportedFC | unsupportedFD
  | unsupportedFE | unsupportedFF
  deriving DecidableEq, Repr

/-- A whole request: the operation, the address it is meant for, the CRC word it carries, and the two parameters as
received where the operation does not interpret them (R62, R78). -/
structure Request where
  /-- Slave address the request is meant for. -/
  addr : Byte
  /-- The operation with its operands. -/
  instr : Instr
  /-- `P1` of an unsupported request, received and not interpreted; 0 in `READ` and `WRITE`. -/
  unread1 : Word
  /-- `P2` of an unsupported request, received and not interpreted; 0 in `READ` and `WRITE`. -/
  unread2 : Word
  /-- The CRC word. -/
  crc : Word
  deriving DecidableEq, Repr

end Sys2Proof
end

