-- ==== Sys2Proof/Machine/Bytes.lean ====
section
/-! DEFINITION. Byte order and the byte views of a frame (spec/00_scope.md R11, spec/20_memory.md R47 to R49,
spec/30_encoding.md R62, R63). -/

namespace Sys2Proof.Machine

/-- `hi8(v) = v[15:8]` (R11). -/
def hi8 (v : Word) : Byte := v.extractLsb' 8 8

/-- `lo8(v) = v[7:0]` (R11). -/
def lo8 (v : Word) : Byte := v.extractLsb' 0 8

/-- `{h, l} = h * 256 + l` (R11). -/
def join (h l : Byte) : Word := BitVec.ofNat 16 (h.toNat * 256 + l.toNat)

/-- `little_endian(c) = [lo8(c), hi8(c)]`: a CRC as it stands on the wire (R49, R89). -/
def littleEndian (c : Word) : List Byte := [lo8 c, hi8 c]

/-- `[hi8(v), lo8(v)]`: a register value as it stands on the wire (R48). -/
def bigEndian (v : Word) : List Byte := [hi8 v, lo8 v]

/-- The eight bytes of a frame in wire order (R62). -/
def frameBytes (f : Frame) : List Byte := [f.addr, f.func, f.p1Hi, f.p1Lo, f.p2Hi, f.p2Lo, f.crcLo, f.crcHi]

/-- The first six bytes of a frame: what its CRC covers (R62, R88). -/
def frameBody (f : Frame) : List Byte := [f.addr, f.func, f.p1Hi, f.p1Lo, f.p2Hi, f.p2Lo]

/-- The frame of eight bytes in wire order, with the bytes that follow; `none` for fewer than eight (R61, R75). -/
def takeFrame : List Byte → Option (Frame × List Byte)
  | a :: f :: p :: q :: r :: t :: l :: h :: rest => some (⟨a, f, p, q, r, t, l, h⟩, rest)
  | _ => none

/-- `req[j] <- b` (R45, R104); offsets are 0 to 7. -/
def setByte (f : Frame) (j : Nat) (b : Byte) : Frame :=
  match j with
  | 0 => { f with addr := b }
  | 1 => { f with func := b }
  | 2 => { f with p1Hi := b }
  | 3 => { f with p1Lo := b }
  | 4 => { f with p2Hi := b }
  | 5 => { f with p2Lo := b }
  | 6 => { f with crcLo := b }
  | 7 => { f with crcHi := b }
  | _ => f

/-- The frame written as one 64-bit word, byte 0 most significant (R63). -/
def frameOfWord (w : BitVec 64) : Frame :=
  { addr := w.extractLsb' 56 8, func := w.extractLsb' 48 8, p1Hi := w.extractLsb' 40 8, p1Lo := w.extractLsb' 32 8,
    p2Hi := w.extractLsb' 24 8, p2Lo := w.extractLsb' 16 8, crcLo := w.extractLsb' 8 8, crcHi := w.extractLsb' 0 8 }

end Sys2Proof.Machine
end

