-- ==== Sys2Proof/Machine/Crc.lean ====
section
/-! DEFINITION. The CRC engine: generator and validator (spec/40_crc_engine.md). -/

namespace Sys2Proof.Machine

/-- The accumulator's seed `CRC_INIT` (R8, R82). -/
def crcInit : Word := 0xFFFF

/-- The reflected polynomial `CRC_POLY` (R8, R82). -/
def crcPoly : Word := 0xA001

/-- One round: test the low bit, shift right, XOR with the polynomial if the bit was 1 (R82, R83). -/
def crcBit (c : Word) : Word := if c.getLsbD 0 then (c >>> 1) ^^^ crcPoly else c >>> 1

/-- `n` rounds. -/
def crcRounds : Nat → Word → Word
  | 0, c => c
  | n + 1, c => crcRounds n (crcBit c)

/-- One byte: XOR it into the low byte of the accumulator, then `CRC_ROUNDS = 8` rounds (R82, R84). -/
def crcByte (c : Word) (d : Byte) : Word := crcRounds 8 (c ^^^ d.setWidth 16)

/-- `Crc16(b)`, the bytes in wire order from the seed (R82). -/
def crc16 (b : List Byte) : Word := b.foldl crcByte crcInit

/-- `CrcVerify(b, length)`: the two bytes after `b[0 .. length-1]`, low byte first, equal the recomputed CRC (R86).
`none` when fewer than `length + 2` bytes are there, where the function has no meaning (R86, U6). -/
def crcVerify (b : List Byte) (length : Nat) : Option Bool :=
  match b[length]?, b[length + 1]? with
  | some l, some h => some (crc16 (b.take length) == join h l)
  | _, _ => none

end Sys2Proof.Machine
end

