-- ==== Sys2Proof/Config.lean ====
section
/-! DEFINITION. What an instance fixes (spec/00_scope.md R9) and the one free value, the telemetry source. -/

namespace Sys2Proof

/-- The quantities the source names and gives no value (R9). They are constants of an instance (R22, R35); the model
carries them in the state so that every claim can quantify over them (log 5). -/
structure Params where
  /-- `REGISTER_COUNT`: length of the register store, 1 to 65536 (R9, D5). -/
  registerCount : Nat
  /-- `MAX_READ_COUNT`: largest count a Read may ask for, 0 to 127 (R9, D6). -/
  maxReadCount : Nat
  /-- `SLAVE_ADDR_RESET`: slave address after reset, any byte (R9, D4). -/
  slaveAddrReset : Byte
  /-- `LED_INDEX_RESET`: side-effect index after reset, below `registerCount` (R9, D4). -/
  ledIndexReset : Nat
  /-- `REG_RESET`: reset value of every holding register (R9, D3). -/
  regReset : Word
  /-- `RX_CAP`: capacity of the receive queue, `none` for an unbounded one (R9, D19). -/
  rxCap : Option Nat
  deriving DecidableEq, Repr

namespace Params

/-- `RESP_CAP = max(8, 5 + 2 * MAX_READ_COUNT)`, in bytes (R9, R126). -/
def respCap (p : Params) : Nat := max 8 (5 + 2 * p.maxReadCount)

/-- The constraints R9 puts on an instance. -/
abbrev wf (p : Params) : Prop :=
  (1 ≤ p.registerCount ∧ p.registerCount ≤ 65536) ∧ p.ledIndexReset < p.registerCount ∧ p.maxReadCount ≤ 127 ∧
    p.rxCap.all fun c => 8 ≤ c

/-- The spec's test configuration `T4` (R10), with an unbounded receive queue (D19). DESIGN CHOICE, unsafe: the
instance that `State.reset` carries (log 5). -/
def T4 : Params :=
  { registerCount := 4, maxReadCount := 125, slaveAddrReset := 0x01, ledIndexReset := 0, regReset := 0x0000,
    rxCap := none }

/-- The spec's configuration `T200` (spec/96_test_vectors_engine.md, V-LONG): `T4` with 200 registers. -/
def T200 : Params := { T4 with registerCount := 200 }

end Params

/-- The free value of the random (telemetry) source: the `n`-th draw, as an offset from 1, so that the draw lies in
`[1, 10000)`; nothing else is promised of it (R99, U3). No body: nothing can be proved of its value (log 8). -/
opaque Config.telemetry : Nat → Fin 9999

end Sys2Proof
end

