-- ==== Sys2Proof/Machine/State.lean ====
section
/-! DEFINITION. The state of the machine, as plain data (spec/10_state.md), the reasons a step can stop, and the state
after reset (R36, R178). -/

namespace Sys2Proof.Machine

/-- The phases of the polling loop (R18, spec/45_polling_loop_fsm.md R130). -/
inductive Phase where
  | idle | refresh | gate | consume | checkAddr | checkCrc | dispatch | execRead | execWrite | emit | drain | output
  deriving DecidableEq, Repr

/-- The events a tick can end with (spec/60_exceptions.md R157); `none` before any tick has ended. -/
inductive Event where
  | none | frameIncomplete | addressMismatch | crcMismatch | unsupportedFunction | outOfRangeRead
  | writeOutOfRangeAck | readOk | writeOk
  deriving DecidableEq, Repr

/-- The engine configuration: slave address (R20) and side-effect register index (R21). -/
structure EngineConfig where
  /-- `slave_addr`, 8 bits, every value legal. -/
  slaveAddr : Byte
  /-- `led_index`, below `REGISTER_COUNT` (an invariant: setter and reset keep it, R149). -/
  ledIndex : Nat
  deriving DecidableEq, Repr

/-- The injected random (telemetry) source (R33, R99): the values it yields next, and how many draws were taken. When
the queue is empty a draw is the free value `Config.telemetry` of the count (log 8). -/
structure Source where
  /-- Values still to come, next first; 16 bits as on port `rnd_data` (R34). -/
  queue : List Word
  /-- The model's own counter of draws taken (log 8). -/
  taken : Nat
  deriving DecidableEq, Repr

/-- The input ports of one clock cycle (R34), and the bytes that reach the receive queue in it (R31, R144). -/
structure PortIn where
  /-- `rst`, active high (R177). -/
  rst : Bool
  /-- `tick` (R145). -/
  tick : Bool
  /-- `cfg_addr` when `cfg_addr_we = 1` (R148). -/
  cfgAddr : Option Byte
  /-- `cfg_led` when `cfg_led_we = 1` (R149). -/
  cfgLed : Option Word
  /-- Bytes that arrive in this cycle, oldest first; finitely many (R138, log 23). -/
  rx : List Byte
  deriving DecidableEq, Repr

/-- A cycle in which nothing is asked and nothing arrives. -/
def PortIn.idle : PortIn := { rst := false, tick := false, cfgAddr := Option.none, cfgLed := Option.none, rx := [] }

/-- The state of the machine (R15), with the environment's part of it (R31 to R33) and the inputs to come. -/
structure State where
  /-- The instance's constants (R9, R22, R35). -/
  par : Params
  /-- The holding registers `x[0 .. REGISTER_COUNT-1]` (R16). -/
  x : List Word
  /-- The phase (R18). -/
  pc : Phase
  /-- Byte counter of `CONSUME` and `EMIT` (R19). -/
  k : Nat
  /-- Counter of registers read in `EXEC_READ` (R19). -/
  i : Nat
  /-- The active configuration (R20, R21). -/
  cfg : EngineConfig
  /-- The pending copies (R24). -/
  shadow : EngineConfig
  /-- The request buffer `req[0..7]` (R25). -/
  req : Frame
  /-- The response buffer; its length is `resp_len` (R27). -/
  resp : List Byte
  /-- The CRC accumulator (R28). -/
  crc : Word
  /-- The event raised on the way, for phase `OUTPUT` to latch (R131, R160). -/
  out : Event
  /-- The information of that event (R160, R163). -/
  outInfo : BitVec 2
  /-- Status: the last tick's event (R29). -/
  outcome : Event
  /-- Status: the causes of `OUT_OF_RANGE_READ` (R29, R163). -/
  oorInfo : BitVec 2
  /-- The output latch, `true` = active (R30). -/
  dout : Bool
  /-- Output port `done` (R34, R145). -/
  done : Bool
  /-- The receive queue, head first (R31). -/
  rxq : List Byte
  /-- Every byte passed to the sink, in order (R32). -/
  txq : List Byte
  /-- The random source (R33). -/
  rnd : Source
  /-- The model's own field: the inputs of the cycles to come, next first; idle inputs when empty (log 3). DESIGN CHOICE:
  the list is finite, which builds in the premise of R138 that only finitely many bytes arrive during a tick (log 23). -/
  env : List PortIn
  deriving DecidableEq, Repr

/-- Why the machine stops with a fault. -/
inductive Fault where
  /-- A raw access to a holding register that does not exist. Raised by phase `OUTPUT`, which reads `x[cfg.led_index]`
  without a bounds check, and by an accepted Read; R12 calls such an access a spec error, never a hardware behaviour.
  Safe: no state that keeps `Inv` (Safety.lean) raises it. -/
  | storeIndex
  deriving DecidableEq, Repr

/-- Why the machine refuses to go on. -/
inductive Refusal where
  /-- Raised by an arm of `exec` whose instruction has no meaning yet. Safe. No arm raises it. -/
  | notModelled (mnemonic : String)
  /-- `ReadByte()` on an empty queue, raised by phase `CONSUME`: a model gives it no meaning (R42, D25, U5). Safe: the
  gate saw eight bytes and nobody else removes any. -/
  | readByteEmpty
  /-- `CrcVerify` on fewer than `length + 2` bytes, raised by phase `CHECK_CRC`: it has no meaning (R86, U6). Safe: the
  request buffer always has eight bytes. -/
  | crcVerifyShort
  /-- More bytes wait than `RX_CAP`, raised by a cycle in which bytes arrive: what the transport then does is undefined
  and a model refuses the run (D19, U7). Safe. Never raised when `RX_CAP` is unbounded. -/
  | rxOverflow
  deriving DecidableEq, Repr

/-- The state after reset of an instance with the given constants (R36, R178). What R36 leaves unspecified (`k`, `i`,
`req`, `resp`, `crc`, the event on the way) is zero: DESIGN CHOICE, unsafe (log 6). The environment holds nothing:
DESIGN CHOICE, unsafe (log 7). -/
def State.resetWith (p : Params) : State :=
  { par := p
    x := List.replicate p.registerCount p.regReset
    pc := .idle
    k := 0
    i := 0
    cfg := { slaveAddr := p.slaveAddrReset, ledIndex := p.ledIndexReset }
    shadow := { slaveAddr := p.slaveAddrReset, ledIndex := p.ledIndexReset }
    req := ⟨0, 0, 0, 0, 0, 0, 0, 0⟩
    resp := []
    crc := 0
    out := .none
    outInfo := 0
    outcome := .none
    oorInfo := 0
    dout := false
    done := false
    rxq := []
    txq := []
    rnd := { queue := [], taken := 0 }
    env := [] }

/-- The machine right after reset, as an instance of the spec's test configuration `T4` (R10; DESIGN CHOICE, log 5). -/
def State.reset : State := State.resetWith Params.T4

end Sys2Proof.Machine
end

