-- ==== Sys2Proof/Machine/Ops.lean ====
section
/-! DEFINITION. The named operations over state: the primitives of spec/00_scope.md R12, the register store
(spec/41_register_store.md), the byte queues (spec/20_memory.md), and the taking of an event with its end
(spec/60_exceptions.md R160, R166, R168). -/

namespace Sys2Proof.Machine

/-- The three outcomes of a step of this machine. -/
abbrev Result := Host.Outcome State Fault Refusal

/-- Go on from a next state; a stop stays a stop. -/
def thenDo (r : Result) (f : State → Result) : Result :=
  match r with
  | .next s => f s
  | .fault e => .fault e
  | .refused e => .refused e

/-- `pc <- P` (R12, R18). -/
def gotoPhase (p : Phase) (s : State) : State := { s with pc := p }

/-! ### The register store -/

/-- The canonical form of the memory of this machine, the holding-register file: exactly `REGISTER_COUNT` registers
(R16, R38, log 11). -/
abbrev Memory.wf (s : State) : Prop := s.x.length = s.par.registerCount

/-- `x[i]`, the raw read: `none` where the register does not exist, which R12 calls a spec error. -/
def rawRead (s : State) (i : Nat) : Option Word := s.x[i]?

/-- `StoreRead(address)`: bounds-checked on the unwrapped number; `none` is `OutOfRange` (R94, R97). -/
def storeRead (s : State) (address : Nat) : Option Word :=
  if address < s.par.registerCount then rawRead s address else none

/-- `StoreWrite(address, value)`: the state with that one register changed; `none` is `OutOfRange` (R95, R97). -/
def storeWrite (s : State) (address : Nat) (value : Word) : Option State :=
  if address < s.par.registerCount then some { s with x := s.x.set address value } else none

/-- `MemWrite(addr, 1, v)`: the dispatcher's name for a write of one register (R12, R95). -/
def memWrite (s : State) (addr : Nat) (value : Word) : Option State := storeWrite s addr value

/-- `MemRead(addr, n)`: `n` consecutive registers in ascending order, all or nothing (R96). -/
def memRead (s : State) (addr : Nat) : Nat → Option (List Word)
  | 0 => some []
  | n + 1 =>
    match storeRead s addr, memRead s (addr + 1) n with
    | some v, some vs => some (v :: vs)
    | _, _ => none

/-- `Draw()`: the next injected value, or the free value of the draw's number, which lies in `[1, 10000)` (R99; log 8).
A value is handed on as it is, also outside that range (R99, D10; log 9). -/
def draw (src : Source) : Word × Source :=
  match src.queue with
  | d :: ds => (d, { queue := ds, taken := src.taken + 1 })
  | [] => (BitVec.ofNat 16 (1 + (Config.telemetry src.taken).val), { queue := [], taken := src.taken + 1 })

/-- The refresh loop of R98 from index `j` on: one draw per register in ascending order, the reserved index skipped. -/
def refreshFrom (reserved : Nat) (j : Nat) (src : Source) : List Word → List Word × Source
  | [] => ([], src)
  | v :: vs =>
    if j = reserved then
      let (ws, src') := refreshFrom reserved (j + 1) src vs
      (v :: ws, src')
    else
      let (d, src1) := draw src
      let (ws, src') := refreshFrom reserved (j + 1) src1 vs
      (d :: ws, src')

/-- `Refresh()`: every register but `x[cfg.led_index]` takes a draw (R98, R100). -/
def refresh (s : State) : State :=
  { s with x := (refreshFrom s.cfg.ledIndex 0 s.rnd s.x).1, rnd := (refreshFrom s.cfg.ledIndex 0 s.rnd s.x).2 }

/-! ### The byte queues -/

/-- `Avail()`: the number of bytes buffered; no side effect (R41). -/
def avail (s : State) : Nat := s.rxq.length

/-- `ReadByte()`: the oldest byte, removed; `none` on an empty queue, where it has no meaning (R42). -/
def readByte (s : State) : Option (Byte × State) :=
  match s.rxq with
  | [] => none
  | b :: rest => some (b, { s with rxq := rest })

/-- `SinkWrite(bytes)`: append, in order; always succeeds (R44). -/
def sinkWrite (bytes : List Byte) (s : State) : State := { s with txq := s.txq ++ bytes }

/-- `SetOutput(active)`: load the output latch (R141). -/
def setOutput (active : Bool) (s : State) : State := { s with dout := active }

/-! ### Configuration -/

/-- Set slave address: the pending copy only; every value is accepted (R148). -/
def setSlaveAddr (v : Byte) (s : State) : State := { s with shadow := { s.shadow with slaveAddr := v } }

/-- `SetLedIndex(n)`: the pending copy, if `n` is below `REGISTER_COUNT`; else ignored (R149). -/
def setLedIndex (n : Nat) (s : State) : State :=
  if n < s.par.registerCount then { s with shadow := { s.shadow with ledIndex := n } } else s

/-- Step 0 of a tick: the pending configuration becomes the active one and `resp_len` is 0 (R24, R131). -/
def commit (s : State) : State := { s with cfg := s.shadow, resp := [] }

/-! ### Events -/

/-- Taking an event, `raise E(info)` with the next phase (R160): the event and its information are kept for phase
`OUTPUT`, and control goes to the phase named. Nothing is saved, masked or halted (R166). -/
def raiseEvent (e : Event) (info : BitVec 2) (p : Phase) (s : State) : State :=
  { s with out := e, outInfo := info, pc := p }

/-- The end of an event and of the tick (R139, R168): `outcome` and `oor_info` take the tick's event, `done` pulses,
and the machine is idle. -/
def latchOutcome (s : State) : State :=
  { s with outcome := s.out, oorInfo := s.outInfo, done := true, pc := .idle }

/-! ### Reset -/

/-- `rst`: the engine takes its reset state from any phase; the environment (`rxq`, `txq`, the random source, the
inputs to come) is not touched (R177, R180). -/
def resetEngine (s : State) : State :=
  { State.resetWith s.par with rxq := s.rxq, txq := s.txq, rnd := s.rnd, env := s.env }

end Sys2Proof.Machine
end

