-- ==== Sys2Proof/Machine/Flags.lean ====
section
/-! DEFINITION. Status: the acceptance test of a Read and its `oor_info`, the codes of events and phases
(spec/43_request_dispatcher.md R113, spec/60_exceptions.md R157, R163, spec/45_polling_loop_fsm.md R130). -/

namespace Sys2Proof.Machine

/-- `over_store`: the range ends beyond the store; a natural-number sum, it never wraps (R113, R119). -/
def overStore (s : State) (start count : Word) : Bool := s.par.registerCount < start.toNat + count.toNat

/-- `over_cap`: more registers than a response may carry (R113). -/
def overCap (s : State) (count : Word) : Bool := s.par.maxReadCount < count.toNat

/-- `oor_info`: bit 0 is `over_store`, bit 1 is `over_cap` (R113, R163). -/
def oorBits (overCap overStore : Bool) : BitVec 2 := BitVec.ofBool overCap ++ BitVec.ofBool overStore

/-- The 4-bit code of an event; 9 to 15 are never produced (R157, U9). -/
def eventCode : Event → BitVec 4
  | .none => 0
  | .frameIncomplete => 1
  | .addressMismatch => 2
  | .crcMismatch => 3
  | .unsupportedFunction => 4
  | .outOfRangeRead => 5
  | .writeOutOfRangeAck => 6
  | .readOk => 7
  | .writeOk => 8

/-- The 4-bit number of a phase (R130). -/
def phaseCode : Phase → BitVec 4
  | .idle => 0
  | .refresh => 1
  | .gate => 2
  | .consume => 3
  | .checkAddr => 4
  | .checkCrc => 5
  | .dispatch => 6
  | .execRead => 7
  | .execWrite => 8
  | .emit => 9
  | .drain => 10
  | .output => 11

/-- Output port `busy = (pc != IDLE)` (R34, R145). -/
def busy (s : State) : Bool := s.pc != .idle

/-- The projection of the side-effect register: active exactly for the value 1, on all 16 bits (R140). -/
def active (v : Word) : Bool := v == 0x0001

end Sys2Proof.Machine
end

