-- ==== Sys2Proof/Machine/Response.lean ====
section
/-! DEFINITION. The response encoder (spec/44_response_encoder.md). -/

namespace Sys2Proof.Machine

/-- The bytes of a read response that its CRC covers: address, function code, byte count, data big-endian (R67, R122,
R123, R124). -/
def readResponseBody (addr : Byte) (count : Nat) (vals : List Word) : List Byte :=
  addr :: 0x03 :: BitVec.ofNat 8 (2 * count) :: vals.flatMap bigEndian

/-- `EncodeRead(addr, count, vals)`: the response buffer takes body and CRC, low byte first, and the accumulator holds
that CRC (R28, R87, R122). -/
def encodeRead (addr : Byte) (count : Nat) (vals : List Word) (s : State) : State :=
  let body := readResponseBody addr count vals
  { s with resp := body ++ littleEndian (crc16 body), crc := crc16 body }

/-- `EncodeWrite(req)`: the eight bytes of the request, verbatim; the CRC engine is not used (R68, R125). -/
def encodeWrite (s : State) : State := { s with resp := frameBytes s.req }

end Sys2Proof.Machine
end

