-- ==== Sys2Proof/Machine/Requests.lean ====
section
/-! DEFINITION. The meanings of the two executed requests, Read Holding Registers and Write Single Register
(spec/43_request_dispatcher.md R112 to R117). -/

namespace Sys2Proof.Machine

/-- `READ` (R112 to R114): the acceptance test before anything is read; a rejected Read is silent on the wire and
reported with its causes; an accepted one reads `count` registers in ascending order and builds the response. The
fault stands for R12's spec error: an accepted range lies inside the store. -/
def execRead (start count : Word) (s : State) : Result :=
  if overStore s start count || overCap s count then
    .next (raiseEvent .outOfRangeRead (oorBits (overCap s count) (overStore s start count)) .drain s)
  else
    match memRead s start.toNat count.toNat with
    | some vals =>
      .next (raiseEvent .readOk 0 .emit
        { encodeRead s.cfg.slaveAddr count.toNat vals s with i := count.toNat, k := 0 })
    | none => .fault .storeIndex

/-- `WRITE` (R115, R116): the register changes if its address exists, and the request is echoed either way. -/
def execWrite (reg value : Word) (s : State) : Result :=
  match memWrite s reg.toNat value with
  | some s' => .next (raiseEvent .writeOk 0 .emit { encodeWrite s' with k := 0 })
  | none => .next (raiseEvent .writeOutOfRangeAck 0 .emit { encodeWrite s with k := 0 })

end Sys2Proof.Machine
end

