-- ==== Sys2Proof/Machine/Unsupported.lean ====
section
/-! DEFINITION. The meanings of the 254 unsupported function codes (spec/43_request_dispatcher.md R118,
spec/30_encoding.md R72): each does the same nothing, so each is one line over the shared operation. -/

namespace Sys2Proof.Machine

/-- The `else` branch of R111, for every code but 0x03 and 0x06: no register is read or written, no response is built;
the event is raised, with the code left in `req[1]`, and the drain runs (R118). -/
def ignoreRequest (s : State) : Result := .next (raiseEvent .unsupportedFunction 0 .drain s)

/-- Function code 0x00 (R118). -/
def execUnsupported00 (s : State) : Result := ignoreRequest s
/-- Function code 0x01 (R118). -/
def execUnsupported01 (s : State) : Result := ignoreRequest s
/-- Function code 0x02 (R118). -/
def execUnsupported02 (s : State) : Result := ignoreRequest s
/-- Function code 0x04 (R118). -/
def execUnsupported04 (s : State) : Result := ignoreRequest s
/-- Function code 0x05 (R118). -/
def execUnsupported05 (s : State) : Result := ignoreRequest s
/-- Function code 0x07 (R118). -/
def execUnsupported07 (s : State) : Result := ignoreRequest s
/-- Function code 0x08 (R118). -/
def execUnsupported08 (s : State) : Result := ignoreRequest s
/-- Function code 0x09 (R118). -/
def execUnsupported09 (s : State) : Result := ignoreRequest s
/-- Function code 0x0A (R118). -/
def execUnsupported0A (s : State) : Result := ignoreRequest s
/-- Function code 0x0B (R118). -/
def execUnsupported0B (s : State) : Result := ignoreRequest s
/-- Function code 0x0C (R118). -/
def execUnsupported0C (s : State) : Result := ignoreRequest s
/-- Function code 0x0D (R118). -/
def execUnsupported0D (s : State) : Result := ignoreRequest s
/-- Function code 0x0E (R118). -/
def execUnsupported0E (s : State) : Result := ignoreRequest s
/-- Function code 0x0F (R118). -/
def execUnsupported0F (s : State) : Result := ignoreRequest s
/-- Function code 0x10 (R118). -/
def execUnsupported10 (s : State) : Result := ignoreRequest s
/-- Function code 0x11 (R118). -/
def execUnsupported11 (s : State) : Result := ignoreRequest s
/-- Function code 0x12 (R118). -/
def execUnsupported12 (s : State) : Result := ignoreRequest s
/-- Function code 0x13 (R118). -/
def execUnsupported13 (s : State) : Result := ignoreRequest s
/-- Function code 0x14 (R118). -/
def execUnsupported14 (s : State) : Result := ignoreRequest s
/-- Function code 0x15 (R118). -/
def execUnsupported15 (s : State) : Result := ignoreRequest s
/-- Function code 0x16 (R118). -/
def execUnsupported16 (s : State) : Result := ignoreRequest s
/-- Function code 0x17 (R118). -/
def execUnsupported17 (s : State) : Result := ignoreRequest s
/-- Function code 0x18 (R118). -/
def execUnsupported18 (s : State) : Result := ignoreRequest s
/-- Function code 0x19 (R118). -/
def execUnsupported19 (s : State) : Result := ignoreRequest s
/-- Function code 0x1A (R118). -/
def execUnsupported1A (s : State) : Result := ignoreRequest s
/-- Function code 0x1B (R118). -/
def execUnsupported1B (s : State) : Result := ignoreRequest s
/-- Function code 0x1C (R118). -/
def execUnsupported1C (s : State) : Result := ignoreRequest s
/-- Function code 0x1D (R118). -/
def execUnsupported1D (s : State) : Result := ignoreRequest s
/-- Function code 0x1E (R118). -/
def execUnsupported1E (s : State) : Result := ignoreRequest s
/-- Function code 0x1F (R118). -/
def execUnsupported1F (s : State) : Result := ignoreRequest s
/-- Function code 0x20 (R118). -/
def execUnsupported20 (s : State) : Result := ignoreRequest s
/-- Function code 0x21 (R118). -/
def execUnsupported21 (s : State) : Result := ignoreRequest s
/-- Function code 0x22 (R118). -/
def execUnsupported22 (s : State) : Result := ignoreRequest s
/-- Function code 0x23 (R118). -/
def execUnsupported23 (s : State) : Result := ignoreRequest s
/-- Function code 0x24 (R118). -/
def execUnsupported24 (s : State) : Result := ignoreRequest s
/-- Function code 0x25 (R118). -/
def execUnsupported25 (s : State) : Result := ignoreRequest s
/-- Function code 0x26 (R118). -/
def execUnsupported26 (s : State) : Result := ignoreRequest s
/-- Function code 0x27 (R118). -/
def execUnsupported27 (s : State) : Result := ignoreRequest s
/-- Function code 0x28 (R118). -/
def execUnsupported28 (s : State) : Result := ignoreRequest s
/-- Function code 0x29 (R118). -/
def execUnsupported29 (s : State) : Result := ignoreRequest s
/-- Function code 0x2A (R118). -/
def execUnsupported2A (s : State) : Result := ignoreRequest s
/-- Function code 0x2B (R118). -/
def execUnsupported2B (s : State) : Result := ignoreRequest s
/-- Function code 0x2C (R118). -/
def execUnsupported2C (s : State) : Result := ignoreRequest s
/-- Function code 0x2D (R118). -/
def execUnsupported2D (s : State) : Result := ignoreRequest s
/-- Function code 0x2E (R118). -/
def execUnsupported2E (s : State) : Result := ignoreRequest s
/-- Function code 0x2F (R118). -/
def execUnsupported2F (s : State) : Result := ignoreRequest s
/-- Function code 0x30 (R118). -/
def execUnsupported30 (s : State) : Result := ignoreRequest s
/-- Function code 0x31 (R118). -/
def execUnsupported31 (s : State) : Result := ignoreRequest s
/-- Function code 0x32 (R118). -/
def execUnsupported32 (s : State) : Result := ignoreRequest s
/-- Function code 0x33 (R118). -/
def execUnsupported33 (s : State) : Result := ignoreRequest s
/-- Function code 0x34 (R118). -/
def execUnsupported34 (s : State) : Result := ignoreRequest s
/-- Function code 0x35 (R118). -/
def execUnsupported35 (s : State) : Result := ignoreRequest s
/-- Function code 0x36 (R118). -/
def execUnsupported36 (s : State) : Result := ignoreRequest s
/-- Function code 0x37 (R118). -/
def execUnsupported37 (s : State) : Result := ignoreRequest s
/-- Function code 0x38 (R118). -/
def execUnsupported38 (s : State) : Result := ignoreRequest s
/-- Function code 0x39 (R118). -/
def execUnsupported39 (s : State) : Result := ignoreRequest s
/-- Function code 0x3A (R118). -/
def execUnsupported3A (s : State) : Result := ignoreRequest s
/-- Function code 0x3B (R118). -/
def execUnsupported3B (s : State) : Result := ignoreRequest s
/-- Function code 0x3C (R118). -/
def execUnsupported3C (s : State) : Result := ignoreRequest s
/-- Function code 0x3D (R118). -/
def execUnsupported3D (s : State) : Result := ignoreRequest s
/-- Function code 0x3E (R118). -/
def execUnsupported3E (s : State) : Result := ignoreRequest s
/-- Function code 0x3F (R118). -/
def execUnsupported3F (s : State) : Result := ignoreRequest s
/-- Function code 0x40 (R118). -/
def execUnsupported40 (s : State) : Result := ignoreRequest s
/-- Function code 0x41 (R118). -/
def execUnsupported41 (s : State) : Result := ignoreRequest s
/-- Function code 0x42 (R118). -/
def execUnsupported42 (s : State) : Result := ignoreRequest s
/-- Function code 0x43 (R118). -/
def execUnsupported43 (s : State) : Result := ignoreRequest s
/-- Function code 0x44 (R118). -/
def execUnsupported44 (s : State) : Result := ignoreRequest s
/-- Function code 0x45 (R118). -/
def execUnsupported45 (s : State) : Result := ignoreRequest s
/-- Function code 0x46 (R118). -/
def execUnsupported46 (s : State) : Result := ignoreRequest s
/-- Function code 0x47 (R118). -/
def execUnsupported47 (s : State) : Result := ignoreRequest s
/-- Function code 0x48 (R118). -/
def execUnsupported48 (s : State) : Result := ignoreRequest s
/-- Function code 0x49 (R118). -/
def execUnsupported49 (s : State) : Result := ignoreRequest s
/-- Function code 0x4A (R118). -/
def execUnsupported4A (s : State) : Result := ignoreRequest s
/-- Function code 0x4B (R118). -/
def execUnsupported4B (s : State) : Result := ignoreRequest s
/-- Function code 0x4C (R118). -/
def execUnsupported4C (s : State) : Result := ignoreRequest s
/-- Function code 0x4D (R118). -/
def execUnsupported4D (s : State) : Result := ignoreRequest s
/-- Function code 0x4E (R118). -/
def execUnsupported4E (s : State) : Result := ignoreRequest s
/-- Function code 0x4F (R118). -/
def execUnsupported4F (s : State) : Result := ignoreRequest s
/-- Function code 0x50 (R118). -/
def execUnsupported50 (s : State) : Result := ignoreRequest s
/-- Function code 0x51 (R118). -/
def execUnsupported51 (s : State) : Result := ignoreRequest s
/-- Function code 0x52 (R118). -/
def execUnsupported52 (s : State) : Result := ignoreRequest s
/-- Function code 0x53 (R118). -/
def execUnsupported53 (s : State) : Result := ignoreRequest s
/-- Function code 0x54 (R118). -/
def execUnsupported54 (s : State) : Result := ignoreRequest s
/-- Function code 0x55 (R118). -/
def execUnsupported55 (s : State) : Result := ignoreRequest s
/-- Function code 0x56 (R118). -/
def execUnsupported56 (s : State) : Result := ignoreRequest s
/-- Function code 0x57 (R118). -/
def execUnsupported57 (s : State) : Result := ignoreRequest s
/-- Function code 0x58 (R118). -/
def execUnsupported58 (s : State) : Result := ignoreRequest s
/-- Function code 0x59 (R118). -/
def execUnsupported59 (s : State) : Result := ignoreRequest s
/-- Function code 0x5A (R118). -/
def execUnsupported5A (s : State) : Result := ignoreRequest s
/-- Function code 0x5B (R118). -/
def execUnsupported5B (s : State) : Result := ignoreRequest s
/-- Function code 0x5C (R118). -/
def execUnsupported5C (s : State) : Result := ignoreRequest s
/-- Function code 0x5D (R118). -/
def execUnsupported5D (s : State) : Result := ignoreRequest s
/-- Function code 0x5E (R118). -/
def execUnsupported5E (s : State) : Result := ignoreRequest s
/-- Function code 0x5F (R118). -/
def execUnsupported5F (s : State) : Result := ignoreRequest s
/-- Function code 0x60 (R118). -/
def execUnsupported60 (s : State) : Result := ignoreRequest s
/-- Function code 0x61 (R118). -/
def execUnsupported61 (s : State) : Result := ignoreRequest s
/-- Function code 0x62 (R118). -/
def execUnsupported62 (s : State) : Result := ignoreRequest s
/-- Function code 0x63 (R118). -/
def execUnsupported63 (s : State) : Result := ignoreRequest s
/-- Function code 0x64 (R118). -/
def execUnsupported64 (s : State) : Result := ignoreRequest s
/-- Function code 0x65 (R118). -/
def execUnsupported65 (s : State) : Result := ignoreRequest s
/-- Function code 0x66 (R118). -/
def execUnsupported66 (s : State) : Result := ignoreRequest s
/-- Function code 0x67 (R118). -/
def execUnsupported67 (s : State) : Result := ignoreRequest s
/-- Function code 0x68 (R118). -/
def execUnsupported68 (s : State) : Result := ignoreRequest s
/-- Function code 0x69 (R118). -/
def execUnsupported69 (s : State) : Result := ignoreRequest s
/-- Function code 0x6A (R118). -/
def execUnsupported6A (s : State) : Result := ignoreRequest s
/-- Function code 0x6B (R118). -/
def execUnsupported6B (s : State) : Result := ignoreRequest s
/-- Function code 0x6C (R118). -/
def execUnsupported6C (s : State) : Result := ignoreRequest s
/-- Function code 0x6D (R118). -/
def execUnsupported6D (s : State) : Result := ignoreRequest s
/-- Function code 0x6E (R118). -/
def execUnsupported6E (s : State) : Result := ignoreRequest s
/-- Function code 0x6F (R118). -/
def execUnsupported6F (s : State) : Result := ignoreRequest s
/-- Function code 0x70 (R118). -/
def execUnsupported70 (s : State) : Result := ignoreRequest s
/-- Function code 0x71 (R118). -/
def execUnsupported71 (s : State) : Result := ignoreRequest s
/-- Function code 0x72 (R118). -/
def execUnsupported72 (s : State) : Result := ignoreRequest s
/-- Function code 0x73 (R118). -/
def execUnsupported73 (s : State) : Result := ignoreRequest s
/-- Function code 0x74 (R118). -/
def execUnsupported74 (s : State) : Result := ignoreRequest s
/-- Function code 0x75 (R118). -/
def execUnsupported75 (s : State) : Result := ignoreRequest s
/-- Function code 0x76 (R118). -/
def execUnsupported76 (s : State) : Result := ignoreRequest s
/-- Function code 0x77 (R118). -/
def execUnsupported77 (s : State) : Result := ignoreRequest s
/-- Function code 0x78 (R118). -/
def execUnsupported78 (s : State) : Result := ignoreRequest s
/-- Function code 0x79 (R118). -/
def execUnsupported79 (s : State) : Result := ignoreRequest s
/-- Function code 0x7A (R118). -/
def execUnsupported7A (s : State) : Result := ignoreRequest s
/-- Function code 0x7B (R118). -/
def execUnsupported7B (s : State) : Result := ignoreRequest s
/-- Function code 0x7C (R118). -/
def execUnsupported7C (s : State) : Result := ignoreRequest s
/-- Function code 0x7D (R118). -/
def execUnsupported7D (s : State) : Result := ignoreRequest s
/-- Function code 0x7E (R118). -/
def execUnsupported7E (s : State) : Result := ignoreRequest s
/-- Function code 0x7F (R118). -/
def execUnsupported7F (s : State) : Result := ignoreRequest s
/-- Function code 0x80 (R118). -/
def execUnsupported80 (s : State) : Result := ignoreRequest s
/-- Function code 0x81 (R118). -/
def execUnsupported81 (s : State) : Result := ignoreRequest s
/-- Function code 0x82 (R118). -/
def execUnsupported82 (s : State) : Result := ignoreRequest s
/-- Function code 0x83 (R118). -/
def execUnsupported83 (s : State) : Result := ignoreRequest s
/-- Function code 0x84 (R118). -/
def execUnsupported84 (s : State) : Result := ignoreRequest s
/-- Function code 0x85 (R118). -/
def execUnsupported85 (s : State) : Result := ignoreRequest s
/-- Function code 0x86 (R118). -/
def execUnsupported86 (s : State) : Result := ignoreRequest s
/-- Function code 0x87 (R118). -/
def execUnsupported87 (s : State) : Result := ignoreRequest s
/-- Function code 0x88 (R118). -/
def execUnsupported88 (s : State) : Result := ignoreRequest s
/-- Function code 0x89 (R118). -/
def execUnsupported89 (s : State) : Result := ignoreRequest s
/-- Function code 0x8A (R118). -/
def execUnsupported8A (s : State) : Result := ignoreRequest s
/-- Function code 0x8B (R118). -/
def execUnsupported8B (s : State) : Result := ignoreRequest s
/-- Function code 0x8C (R118). -/
def execUnsupported8C (s : State) : Result := ignoreRequest s
/-- Function code 0x8D (R118). -/
def execUnsupported8D (s : State) : Result := ignoreRequest s
/-- Function code 0x8E (R118). -/
def execUnsupported8E (s : State) : Result := ignoreRequest s
/-- Function code 0x8F (R118). -/
def execUnsupported8F (s : State) : Result := ignoreRequest s
/-- Function code 0x90 (R118). -/
def execUnsupported90 (s : State) : Result := ignoreRequest s
/-- Function code 0x91 (R118). -/
def execUnsupported91 (s : State) : Result := ignoreRequest s
/-- Function code 0x92 (R118). -/
def execUnsupported92 (s : State) : Result := ignoreRequest s
/-- Function code 0x93 (R118). -/
def execUnsupported93 (s : State) : Result := ignoreRequest s
/-- Function code 0x94 (R118). -/
def execUnsupported94 (s : State) : Result := ignoreRequest s
/-- Function code 0x95 (R118). -/
def execUnsupported95 (s : State) : Result := ignoreRequest s
/-- Function code 0x96 (R118). -/
def execUnsupported96 (s : State) : Result := ignoreRequest s
/-- Function code 0x97 (R118). -/
def execUnsupported97 (s : State) : Result := ignoreRequest s
/-- Function code 0x98 (R118). -/
def execUnsupported98 (s : State) : Result := ignoreRequest s
/-- Function code 0x99 (R118). -/
def execUnsupported99 (s : State) : Result := ignoreRequest s
/-- Function code 0x9A (R118). -/
def execUnsupported9A (s : State) : Result := ignoreRequest s
/-- Function code 0x9B (R118). -/
def execUnsupported9B (s : State) : Result := ignoreRequest s
/-- Function code 0x9C (R118). -/
def execUnsupported9C (s : State) : Result := ignoreRequest s
/-- Function code 0x9D (R118). -/
def execUnsupported9D (s : State) : Result := ignoreRequest s
/-- Function code 0x9E (R118). -/
def execUnsupported9E (s : State) : Result := ignoreRequest s
/-- Function code 0x9F (R118). -/
def execUnsupported9F (s : State) : Result := ignoreRequest s
/-- Function code 0xA0 (R118). -/
def execUnsupportedA0 (s : State) : Result := ignoreRequest s
/-- Function code 0xA1 (R118). -/
def execUnsupportedA1 (s : State) : Result := ignoreRequest s
/-- Function code 0xA2 (R118). -/
def execUnsupportedA2 (s : State) : Result := ignoreRequest s
/-- Function code 0xA3 (R118). -/
def execUnsupportedA3 (s : State) : Result := ignoreRequest s
/-- Function code 0xA4 (R118). -/
def execUnsupportedA4 (s : State) : Result := ignoreRequest s
/-- Function code 0xA5 (R118). -/
def execUnsupportedA5 (s : State) : Result := ignoreRequest s
/-- Function code 0xA6 (R118). -/
def execUnsupportedA6 (s : State) : Result := ignoreRequest s
/-- Function code 0xA7 (R118). -/
def execUnsupportedA7 (s : State) : Result := ignoreRequest s
/-- Function code 0xA8 (R118). -/
def execUnsupportedA8 (s : State) : Result := ignoreRequest s
/-- Function code 0xA9 (R118). -/
def execUnsupportedA9 (s : State) : Result := ignoreRequest s
/-- Function code 0xAA (R118). -/
def execUnsupportedAA (s : State) : Result := ignoreRequest s
/-- Function code 0xAB (R118). -/
def execUnsupportedAB (s : State) : Result := ignoreRequest s
/-- Function code 0xAC (R118). -/
def execUnsupportedAC (s : State) : Result := ignoreRequest s
/-- Function code 0xAD (R118). -/
def execUnsupportedAD (s : State) : Result := ignoreRequest s
/-- Function code 0xAE (R118). -/
def execUnsupportedAE (s : State) : Result := ignoreRequest s
/-- Function code 0xAF (R118). -/
def execUnsupportedAF (s : State) : Result := ignoreRequest s
/-- Function code 0xB0 (R118). -/
def execUnsupportedB0 (s : State) : Result := ignoreRequest s
/-- Function code 0xB1 (R118). -/
def execUnsupportedB1 (s : State) : Result := ignoreRequest s
/-- Function code 0xB2 (R118). -/
def execUnsupportedB2 (s : State) : Result := ignoreRequest s
/-- Function code 0xB3 (R118). -/
def execUnsupportedB3 (s : State) : Result := ignoreRequest s
/-- Function code 0xB4 (R118). -/
def execUnsupportedB4 (s : State) : Result := ignoreRequest s
/-- Function code 0xB5 (R118). -/
def execUnsupportedB5 (s : State) : Result := ignoreRequest s
/-- Function code 0xB6 (R118). -/
def execUnsupportedB6 (s : State) : Result := ignoreRequest s
/-- Function code 0xB7 (R118). -/
def execUnsupportedB7 (s : State) : Result := ignoreRequest s
/-- Function code 0xB8 (R118). -/
def execUnsupportedB8 (s : State) : Result := ignoreRequest s
/-- Function code 0xB9 (R118). -/
def execUnsupportedB9 (s : State) : Result := ignoreRequest s
/-- Function code 0xBA (R118). -/
def execUnsupportedBA (s : State) : Result := ignoreRequest s
/-- Function code 0xBB (R118). -/
def execUnsupportedBB (s : State) : Result := ignoreRequest s
/-- Function code 0xBC (R118). -/
def execUnsupportedBC (s : State) : Result := ignoreRequest s
/-- Function code 0xBD (R118). -/
def execUnsupportedBD (s : State) : Result := ignoreRequest s
/-- Function code 0xBE (R118). -/
def execUnsupportedBE (s : State) : Result := ignoreRequest s
/-- Function code 0xBF (R118). -/
def execUnsupportedBF (s : State) : Result := ignoreRequest s
/-- Function code 0xC0 (R118). -/
def execUnsupportedC0 (s : State) : Result := ignoreRequest s
/-- Function code 0xC1 (R118). -/
def execUnsupportedC1 (s : State) : Result := ignoreRequest s
/-- Function code 0xC2 (R118). -/
def execUnsupportedC2 (s : State) : Result := ignoreRequest s
/-- Function code 0xC3 (R118). -/
def execUnsupportedC3 (s : State) : Result := ignoreRequest s
/-- Function code 0xC4 (R118). -/
def execUnsupportedC4 (s : State) : Result := ignoreRequest s
/-- Function code 0xC5 (R118). -/
def execUnsupportedC5 (s : State) : Result := ignoreRequest s
/-- Function code 0xC6 (R118). -/
def execUnsupportedC6 (s : State) : Result := ignoreRequest s
/-- Function code 0xC7 (R118). -/
def execUnsupportedC7 (s : State) : Result := ignoreRequest s
/-- Function code 0xC8 (R118). -/
def execUnsupportedC8 (s : State) : Result := ignoreRequest s
/-- Function code 0xC9 (R118). -/
def execUnsupportedC9 (s : State) : Result := ignoreRequest s
/-- Function code 0xCA (R118). -/
def execUnsupportedCA (s : State) : Result := ignoreRequest s
/-- Function code 0xCB (R118). -/
def execUnsupportedCB (s : State) : Result := ignoreRequest s
/-- Function code 0xCC (R118). -/
def execUnsupportedCC (s : State) : Result := ignoreRequest s
/-- Function code 0xCD (R118). -/
def execUnsupportedCD (s : State) : Result := ignoreRequest s
/-- Function code 0xCE (R118). -/
def execUnsupportedCE (s : State) : Result := ignoreRequest s
/-- Function code 0xCF (R118). -/
def execUnsupportedCF (s : State) : Result := ignoreRequest s
/-- Function code 0xD0 (R118). -/
def execUnsupportedD0 (s : State) : Result := ignoreRequest s
/-- Function code 0xD1 (R118). -/
def execUnsupportedD1 (s : State) : Result := ignoreRequest s
/-- Function code 0xD2 (R118). -/
def execUnsupportedD2 (s : State) : Result := ignoreRequest s
/-- Function code 0xD3 (R118). -/
def execUnsupportedD3 (s : State) : Result := ignoreRequest s
/-- Function code 0xD4 (R118). -/
def execUnsupportedD4 (s : State) : Result := ignoreRequest s
/-- Function code 0xD5 (R118). -/
def execUnsupportedD5 (s : State) : Result := ignoreRequest s
/-- Function code 0xD6 (R118). -/
def execUnsupportedD6 (s : State) : Result := ignoreRequest s
/-- Function code 0xD7 (R118). -/
def execUnsupportedD7 (s : State) : Result := ignoreRequest s
/-- Function code 0xD8 (R118). -/
def execUnsupportedD8 (s : State) : Result := ignoreRequest s
/-- Function code 0xD9 (R118). -/
def execUnsupportedD9 (s : State) : Result := ignoreRequest s
/-- Function code 0xDA (R118). -/
def execUnsupportedDA (s : State) : Result := ignoreRequest s
/-- Function code 0xDB (R118). -/
def execUnsupportedDB (s : State) : Result := ignoreRequest s
/-- Function code 0xDC (R118). -/
def execUnsupportedDC (s : State) : Result := ignoreRequest s
/-- Function code 0xDD (R118). -/
def execUnsupportedDD (s : State) : Result := ignoreRequest s
/-- Function code 0xDE (R118). -/
def execUnsupportedDE (s : State) : Result := ignoreRequest s
/-- Function code 0xDF (R118). -/
def execUnsupportedDF (s : State) : Result := ignoreRequest s
/-- Function code 0xE0 (R118). -/
def execUnsupportedE0 (s : State) : Result := ignoreRequest s
/-- Function code 0xE1 (R118). -/
def execUnsupportedE1 (s : State) : Result := ignoreRequest s
/-- Function code 0xE2 (R118). -/
def execUnsupportedE2 (s : State) : Result := ignoreRequest s
/-- Function code 0xE3 (R118). -/
def execUnsupportedE3 (s : State) : Result := ignoreRequest s
/-- Function code 0xE4 (R118). -/
def execUnsupportedE4 (s : State) : Result := ignoreRequest s
/-- Function code 0xE5 (R118). -/
def execUnsupportedE5 (s : State) : Result := ignoreRequest s
/-- Function code 0xE6 (R118). -/
def execUnsupportedE6 (s : State) : Result := ignoreRequest s
/-- Function code 0xE7 (R118). -/
def execUnsupportedE7 (s : State) : Result := ignoreRequest s
/-- Function code 0xE8 (R118). -/
def execUnsupportedE8 (s : State) : Result := ignoreRequest s
/-- Function code 0xE9 (R118). -/
def execUnsupportedE9 (s : State) : Result := ignoreRequest s
/-- Function code 0xEA (R118). -/
def execUnsupportedEA (s : State) : Result := ignoreRequest s
/-- Function code 0xEB (R118). -/
def execUnsupportedEB (s : State) : Result := ignoreRequest s
/-- Function code 0xEC (R118). -/
def execUnsupportedEC (s : State) : Result := ignoreRequest s
/-- Function code 0xED (R118). -/
def execUnsupportedED (s : State) : Result := ignoreRequest s
/-- Function code 0xEE (R118). -/
def execUnsupportedEE (s : State) : Result := ignoreRequest s
/-- Function code 0xEF (R118). -/
def execUnsupportedEF (s : State) : Result := ignoreRequest s
/-- Function code 0xF0 (R118). -/
def execUnsupportedF0 (s : State) : Result := ignoreRequest s
/-- Function code 0xF1 (R118). -/
def execUnsupportedF1 (s : State) : Result := ignoreRequest s
/-- Function code 0xF2 (R118). -/
def execUnsupportedF2 (s : State) : Result := ignoreRequest s
/-- Function code 0xF3 (R118). -/
def execUnsupportedF3 (s : State) : Result := ignoreRequest s
/-- Function code 0xF4 (R118). -/
def execUnsupportedF4 (s : State) : Result := ignoreRequest s
/-- Function code 0xF5 (R118). -/
def execUnsupportedF5 (s : State) : Result := ignoreRequest s
/-- Function code 0xF6 (R118). -/
def execUnsupportedF6 (s : State) : Result := ignoreRequest s
/-- Function code 0xF7 (R118). -/
def execUnsupportedF7 (s : State) : Result := ignoreRequest s
/-- Function code 0xF8 (R118). -/
def execUnsupportedF8 (s : State) : Result := ignoreRequest s
/-- Function code 0xF9 (R118). -/
def execUnsupportedF9 (s : State) : Result := ignoreRequest s
/-- Function code 0xFA (R118). -/
def execUnsupportedFA (s : State) : Result := ignoreRequest s
/-- Function code 0xFB (R118). -/
def execUnsupportedFB (s : State) : Result := ignoreRequest s
/-- Function code 0xFC (R118). -/
def execUnsupportedFC (s : State) : Result := ignoreRequest s
/-- Function code 0xFD (R118). -/
def execUnsupportedFD (s : State) : Result := ignoreRequest s
/-- Function code 0xFE (R118). -/
def execUnsupportedFE (s : State) : Result := ignoreRequest s
/-- Function code 0xFF (R118). -/
def execUnsupportedFF (s : State) : Result := ignoreRequest s

end Sys2Proof.Machine
end

