-- ==== Sys2Proof/Machine/Dispatch.lean ====
section
/-! DEFINITION. The meaning of each request, one arm per row of spec/opcode_table.json. -/

namespace Sys2Proof.Machine

def exec (i : Instr) (s : State) : Host.Outcome State Fault Refusal :=
  match i with
  | .read start count => Sys2Proof.Machine.execRead start count s
  | .write reg value => Sys2Proof.Machine.execWrite reg value s
  | .unsupported00 => Sys2Proof.Machine.execUnsupported00 s
  | .unsupported01 => Sys2Proof.Machine.execUnsupported01 s
  | .unsupported02 => Sys2Proof.Machine.execUnsupported02 s
  | .unsupported04 => Sys2Proof.Machine.execUnsupported04 s
  | .unsupported05 => Sys2Proof.Machine.execUnsupported05 s
  | .unsupported07 => Sys2Proof.Machine.execUnsupported07 s
  | .unsupported08 => Sys2Proof.Machine.execUnsupported08 s
  | .unsupported09 => Sys2Proof.Machine.execUnsupported09 s
  | .unsupported0A => Sys2Proof.Machine.execUnsupported0A s
  | .unsupported0B => Sys2Proof.Machine.execUnsupported0B s
  | .unsupported0C => Sys2Proof.Machine.execUnsupported0C s
  | .unsupported0D => Sys2Proof.Machine.execUnsupported0D s
  | .unsupported0E => Sys2Proof.Machine.execUnsupported0E s
  | .unsupported0F => Sys2Proof.Machine.execUnsupported0F s
  | .unsupported10 => Sys2Proof.Machine.execUnsupported10 s
  | .unsupported11 => Sys2Proof.Machine.execUnsupported11 s
  | .unsupported12 => Sys2Proof.Machine.execUnsupported12 s
  | .unsupported13 => Sys2Proof.Machine.execUnsupported13 s
  | .unsupported14 => Sys2Proof.Machine.execUnsupported14 s
  | .unsupported15 => Sys2Proof.Machine.execUnsupported15 s
  | .unsupported16 => Sys2Proof.Machine.execUnsupported16 s
  | .unsupported17 => Sys2Proof.Machine.execUnsupported17 s
  | .unsupported18 => Sys2Proof.Machine.execUnsupported18 s
  | .unsupported19 => Sys2Proof.Machine.execUnsupported19 s
  | .unsupported1A => Sys2Proof.Machine.execUnsupported1A s
  | .unsupported1B => Sys2Proof.Machine.execUnsupported1B s
  | .unsupported1C => Sys2Proof.Machine.execUnsupported1C s
  | .unsupported1D => Sys2Proof.Machine.execUnsupported1D s
  | .unsupported1E => Sys2Proof.Machine.execUnsupported1E s
  | .unsupported1F => Sys2Proof.Machine.execUnsupported1F s
  | .unsupported20 => Sys2Proof.Machine.execUnsupported20 s
  | .unsupported21 => Sys2Proof.Machine.execUnsupported21 s
  | .unsupported22 => Sys2Proof.Machine.execUnsupported22 s
  | .unsupported23 => Sys2Proof.Machine.execUnsupported23 s
  | .unsupported24 => Sys2Proof.Machine.execUnsupported24 s
  | .unsupported25 => Sys2Proof.Machine.execUnsupported25 s
  | .unsupported26 => Sys2Proof.Machine.execUnsupported26 s
  | .unsupported27 => Sys2Proof.Machine.execUnsupported27 s
  | .unsupported28 => Sys2Proof.Machine.execUnsupported28 s
  | .unsupported29 => Sys2Proof.Machine.execUnsupported29 s
  | .unsupported2A => Sys2Proof.Machine.execUnsupported2A s
  | .unsupported2B => Sys2Proof.Machine.execUnsupported2B s
  | .unsupported2C => Sys2Proof.Machine.execUnsupported2C s
  | .unsupported2D => Sys2Proof.Machine.execUnsupported2D s
  | .unsupported2E => Sys2Proof.Machine.execUnsupported2E s
  | .unsupported2F => Sys2Proof.Machine.execUnsupported2F s
  | .unsupported30 => Sys2Proof.Machine.execUnsupported30 s
  | .unsupported31 => Sys2Proof.Machine.execUnsupported31 s
  | .unsupported32 => Sys2Proof.Machine.execUnsupported32 s
  | .unsupported33 => Sys2Proof.Machine.execUnsupported33 s
  | .unsupported34 => Sys2Proof.Machine.execUnsupported34 s
  | .unsupported35 => Sys2Proof.Machine.execUnsupported35 s
  | .unsupported36 => Sys2Proof.Machine.execUnsupported36 s
  | .unsupported37 => Sys2Proof.Machine.execUnsupported37 s
  | .unsupported38 => Sys2Proof.Machine.execUnsupported38 s
  | .unsupported39 => Sys2Proof.Machine.execUnsupported39 s
  | .unsupported3A => Sys2Proof.Machine.execUnsupported3A s
  | .unsupported3B => Sys2Proof.Machine.execUnsupported3B s
  | .unsupported3C => Sys2Proof.Machine.execUnsupported3C s
  | .unsupported3D => Sys2Proof.Machine.execUnsupported3D s
  | .unsupported3E => Sys2Proof.Machine.execUnsupported3E s
  | .unsupported3F => Sys2Proof.Machine.execUnsupported3F s
  | .unsupported40 => Sys2Proof.Machine.execUnsupported40 s
  | .unsupported41 => Sys2Proof.Machine.execUnsupported41 s
  | .unsupported42 => Sys2Proof.Machine.execUnsupported42 s
  | .unsupported43 => Sys2Proof.Machine.execUnsupported43 s
  | .unsupported44 => Sys2Proof.Machine.execUnsupported44 s
  | .unsupported45 => Sys2Proof.Machine.execUnsupported45 s
  | .unsupported46 => Sys2Proof.Machine.execUnsupported46 s
  | .unsupported47 => Sys2Proof.Machine.execUnsupported47 s
  | .unsupported48 => Sys2Proof.Machine.execUnsupported48 s
  | .unsupported49 => Sys2Proof.Machine.execUnsupported49 s
  | .unsupported4A => Sys2Proof.Machine.execUnsupported4A s
  | .unsupported4B => Sys2Proof.Machine.execUnsupported4B s
  | .unsupported4C => Sys2Proof.Machine.execUnsupported4C s
  | .unsupported4D => Sys2Proof.Machine.execUnsupported4D s
  | .unsupported4E => Sys2Proof.Machine.execUnsupported4E s
  | .unsupported4F => Sys2Proof.Machine.execUnsupported4F s
  | .unsupported50 => Sys2Proof.Machine.execUnsupported50 s
  | .unsupported51 => Sys2Proof.Machine.execUnsupported51 s
  | .unsupported52 => Sys2Proof.Machine.execUnsupported52 s
  | .unsupported53 => Sys2Proof.Machine.execUnsupported53 s
  | .unsupported54 => Sys2Proof.Machine.execUnsupported54 s
  | .unsupported55 => Sys2Proof.Machine.execUnsupported55 s
  | .unsupported56 => Sys2Proof.Machine.execUnsupported56 s
  | .unsupported57 => Sys2Proof.Machine.execUnsupported57 s
  | .unsupported58 => Sys2Proof.Machine.execUnsupported58 s
  | .unsupported59 => Sys2Proof.Machine.execUnsupported59 s
  | .unsupported5A => Sys2Proof.Machine.execUnsupported5A s
  | .unsupported5B => Sys2Proof.Machine.execUnsupported5B s
  | .unsupported5C => Sys2Proof.Machine.execUnsupported5C s
  | .unsupported5D => Sys2Proof.Machine.execUnsupported5D s
  | .unsupported5E => Sys2Proof.Machine.execUnsupported5E s
  | .unsupported5F => Sys2Proof.Machine.execUnsupported5F s
  | .unsupported60 => Sys2Proof.Machine.execUnsupported60 s
  | .unsupported61 => Sys2Proof.Machine.execUnsupported61 s
  | .unsupported62 => Sys2Proof.Machine.execUnsupported62 s
  | .unsupported63 => Sys2Proof.Machine.execUnsupported63 s
  | .unsupported64 => Sys2Proof.Machine.execUnsupported64 s
  | .unsupported65 => Sys2Proof.Machine.execUnsupported65 s
  | .unsupported66 => Sys2Proof.Machine.execUnsupported66 s
  | .unsupported67 => Sys2Proof.Machine.execUnsupported67 s
  | .unsupported68 => Sys2Proof.Machine.execUnsupported68 s
  | .unsupported69 => Sys2Proof.Machine.execUnsupported69 s
  | .unsupported6A => Sys2Proof.Machine.execUnsupported6A s
  | .unsupported6B => Sys2Proof.Machine.execUnsupported6B s
  | .unsupported6C => Sys2Proof.Machine.execUnsupported6C s
  | .unsupported6D => Sys2Proof.Machine.execUnsupported6D s
  | .unsupported6E => Sys2Proof.Machine.execUnsupported6E s
  | .unsupported6F => Sys2Proof.Machine.execUnsupported6F s
  | .unsupported70 => Sys2Proof.Machine.execUnsupported70 s
  | .unsupported71 => Sys2Proof.Machine.execUnsupported71 s
  | .unsupported72 => Sys2Proof.Machine.execUnsupported72 s
  | .unsupported73 => Sys2Proof.Machine.execUnsupported73 s
  | .unsupported74 => Sys2Proof.Machine.execUnsupported74 s
  | .unsupported75 => Sys2Proof.Machine.execUnsupported75 s
  | .unsupported76 => Sys2Proof.Machine.execUnsupported76 s
  | .unsupported77 => Sys2Proof.Machine.execUnsupported77 s
  | .unsupported78 => Sys2Proof.Machine.execUnsupported78 s
  | .unsupported79 => Sys2Proof.Machine.execUnsupported79 s
  | .unsupported7A => Sys2Proof.Machine.execUnsupported7A s
  | .unsupported7B => Sys2Proof.Machine.execUnsupported7B s
  | .unsupported7C => Sys2Proof.Machine.execUnsupported7C s
  | .unsupported7D => Sys2Proof.Machine.execUnsupported7D s
  | .unsupported7E => Sys2Proof.Machine.execUnsupported7E s
  | .unsupported7F => Sys2Proof.Machine.execUnsupported7F s
  | .unsupported80 => Sys2Proof.Machine.execUnsupported80 s
  | .unsupported81 => Sys2Proof.Machine.execUnsupported81 s
  | .unsupported82 => Sys2Proof.Machine.execUnsupported82 s
  | .unsupported83 => Sys2Proof.Machine.execUnsupported83 s
  | .unsupported84 => Sys2Proof.Machine.execUnsupported84 s
  | .unsupported85 => Sys2Proof.Machine.execUnsupported85 s
  | .unsupported86 => Sys2Proof.Machine.execUnsupported86 s
  | .unsupported87 => Sys2Proof.Machine.execUnsupported87 s
  | .unsupported88 => Sys2Proof.Machine.execUnsupported88 s
  | .unsupported89 => Sys2Proof.Machine.execUnsupported89 s
  | .unsupported8A => Sys2Proof.Machine.execUnsupported8A s
  | .unsupported8B => Sys2Proof.Machine.execUnsupported8B s
  | .unsupported8C => Sys2Proof.Machine.execUnsupported8C s
  | .unsupported8D => Sys2Proof.Machine.execUnsupported8D s
  | .unsupported8E => Sys2Proof.Machine.execUnsupported8E s
  | .unsupported8F => Sys2Proof.Machine.execUnsupported8F s
  | .unsupported90 => Sys2Proof.Machine.execUnsupported90 s
  | .unsupported91 => Sys2Proof.Machine.execUnsupported91 s
  | .unsupported92 => Sys2Proof.Machine.execUnsupported92 s
  | .unsupported93 => Sys2Proof.Machine.execUnsupported93 s
  | .unsupported94 => Sys2Proof.Machine.execUnsupported94 s
  | .unsupported95 => Sys2Proof.Machine.execUnsupported95 s
  | .unsupported96 => Sys2Proof.Machine.execUnsupported96 s
  | .unsupported97 => Sys2Proof.Machine.execUnsupported97 s
  | .unsupported98 => Sys2Proof.Machine.execUnsupported98 s
  | .unsupported99 => Sys2Proof.Machine.execUnsupported99 s
  | .unsupported9A => Sys2Proof.Machine.execUnsupported9A s
  | .unsupported9B => Sys2Proof.Machine.execUnsupported9B s
  | .unsupported9C => Sys2Proof.Machine.execUnsupported9C s
  | .unsupported9D => Sys2Proof.Machine.execUnsupported9D s
  | .unsupported9E => Sys2Proof.Machine.execUnsupported9E s
  | .unsupported9F => Sys2Proof.Machine.execUnsupported9F s
  | .unsupportedA0 => Sys2Proof.Machine.execUnsupportedA0 s
  | .unsupportedA1 => Sys2Proof.Machine.execUnsupportedA1 s
  | .unsupportedA2 => Sys2Proof.Machine.execUnsupportedA2 s
  | .unsupportedA3 => Sys2Proof.Machine.execUnsupportedA3 s
  | .unsupportedA4 => Sys2Proof.Machine.execUnsupportedA4 s
  | .unsupportedA5 => Sys2Proof.Machine.execUnsupportedA5 s
  | .unsupportedA6 => Sys2Proof.Machine.execUnsupportedA6 s
  | .unsupportedA7 => Sys2Proof.Machine.execUnsupportedA7 s
  | .unsupportedA8 => Sys2Proof.Machine.execUnsupportedA8 s
  | .unsupportedA9 => Sys2Proof.Machine.execUnsupportedA9 s
  | .unsupportedAA => Sys2Proof.Machine.execUnsupportedAA s
  | .unsupportedAB => Sys2Proof.Machine.execUnsupportedAB s
  | .unsupportedAC => Sys2Proof.Machine.execUnsupportedAC s
  | .unsupportedAD => Sys2Proof.Machine.execUnsupportedAD s
  | .unsupportedAE => Sys2Proof.Machine.execUnsupportedAE s
  | .unsupportedAF => Sys2Proof.Machine.execUnsupportedAF s
  | .unsupportedB0 => Sys2Proof.Machine.execUnsupportedB0 s
  | .unsupportedB1 => Sys2Proof.Machine.execUnsupportedB1 s
  | .unsupportedB2 => Sys2Proof.Machine.execUnsupportedB2 s
  | .unsupportedB3 => Sys2Proof.Machine.execUnsupportedB3 s
  | .unsupportedB4 => Sys2Proof.Machine.execUnsupportedB4 s
  | .unsupportedB5 => Sys2Proof.Machine.execUnsupportedB5 s
  | .unsupportedB6 => Sys2Proof.Machine.execUnsupportedB6 s
  | .unsupportedB7 => Sys2Proof.Machine.execUnsupportedB7 s
  | .unsupportedB8 => Sys2Proof.Machine.execUnsupportedB8 s
  | .unsupportedB9 => Sys2Proof.Machine.execUnsupportedB9 s
  | .unsupportedBA => Sys2Proof.Machine.execUnsupportedBA s
  | .unsupportedBB => Sys2Proof.Machine.execUnsupportedBB s
  | .unsupportedBC => Sys2Proof.Machine.execUnsupportedBC s
  | .unsupportedBD => Sys2Proof.Machine.execUnsupportedBD s
  | .unsupportedBE => Sys2Proof.Machine.execUnsupportedBE s
  | .unsupportedBF => Sys2Proof.Machine.execUnsupportedBF s
  | .unsupportedC0 => Sys2Proof.Machine.execUnsupportedC0 s
  | .unsupportedC1 => Sys2Proof.Machine.execUnsupportedC1 s
  | .unsupportedC2 => Sys2Proof.Machine.execUnsupportedC2 s
  | .unsupportedC3 => Sys2Proof.Machine.execUnsupportedC3 s
  | .unsupportedC4 => Sys2Proof.Machine.execUnsupportedC4 s
  | .unsupportedC5 => Sys2Proof.Machine.execUnsupportedC5 s
  | .unsupportedC6 => Sys2Proof.Machine.execUnsupportedC6 s
  | .unsupportedC7 => Sys2Proof.Machine.execUnsupportedC7 s
  | .unsupportedC8 => Sys2Proof.Machine.execUnsupportedC8 s
  | .unsupportedC9 => Sys2Proof.Machine.execUnsupportedC9 s
  | .unsupportedCA => Sys2Proof.Machine.execUnsupportedCA s
  | .unsupportedCB => Sys2Proof.Machine.execUnsupportedCB s
  | .unsupportedCC => Sys2Proof.Machine.execUnsupportedCC s
  | .unsupportedCD => Sys2Proof.Machine.execUnsupportedCD s
  | .unsupportedCE => Sys2Proof.Machine.execUnsupportedCE s
  | .unsupportedCF => Sys2Proof.Machine.execUnsupportedCF s
  | .unsupportedD0 => Sys2Proof.Machine.execUnsupportedD0 s
  | .unsupportedD1 => Sys2Proof.Machine.execUnsupportedD1 s
  | .unsupportedD2 => Sys2Proof.Machine.execUnsupportedD2 s
  | .unsupportedD3 => Sys2Proof.Machine.execUnsupportedD3 s
  | .unsupportedD4 => Sys2Proof.Machine.execUnsupportedD4 s
  | .unsupportedD5 => Sys2Proof.Machine.execUnsupportedD5 s
  | .unsupportedD6 => Sys2Proof.Machine.execUnsupportedD6 s
  | .unsupportedD7 => Sys2Proof.Machine.execUnsupportedD7 s
  | .unsupportedD8 => Sys2Proof.Machine.execUnsupportedD8 s
  | .unsupportedD9 => Sys2Proof.Machine.execUnsupportedD9 s
  | .unsupportedDA => Sys2Proof.Machine.execUnsupportedDA s
  | .unsupportedDB => Sys2Proof.Machine.execUnsupportedDB s
  | .unsupportedDC => Sys2Proof.Machine.execUnsupportedDC s
  | .unsupportedDD => Sys2Proof.Machine.execUnsupportedDD s
  | .unsupportedDE => Sys2Proof.Machine.execUnsupportedDE s
  | .unsupportedDF => Sys2Proof.Machine.execUnsupportedDF s
  | .unsupportedE0 => Sys2Proof.Machine.execUnsupportedE0 s
  | .unsupportedE1 => Sys2Proof.Machine.execUnsupportedE1 s
  | .unsupportedE2 => Sys2Proof.Machine.execUnsupportedE2 s
  | .unsupportedE3 => Sys2Proof.Machine.execUnsupportedE3 s
  | .unsupportedE4 => Sys2Proof.Machine.execUnsupportedE4 s
  | .unsupportedE5 => Sys2Proof.Machine.execUnsupportedE5 s
  | .unsupportedE6 => Sys2Proof.Machine.execUnsupportedE6 s
  | .unsupportedE7 => Sys2Proof.Machine.execUnsupportedE7 s
  | .unsupportedE8 => Sys2Proof.Machine.execUnsupportedE8 s
  | .unsupportedE9 => Sys2Proof.Machine.execUnsupportedE9 s
  | .unsupportedEA => Sys2Proof.Machine.execUnsupportedEA s
  | .unsupportedEB => Sys2Proof.Machine.execUnsupportedEB s
  | .unsupportedEC => Sys2Proof.Machine.execUnsupportedEC s
  | .unsupportedED => Sys2Proof.Machine.execUnsupportedED s
  | .unsupportedEE => Sys2Proof.Machine.execUnsupportedEE s
  | .unsupportedEF => Sys2Proof.Machine.execUnsupportedEF s
  | .unsupportedF0 => Sys2Proof.Machine.execUnsupportedF0 s
  | .unsupportedF1 => Sys2Proof.Machine.execUnsupportedF1 s
  | .unsupportedF2 => Sys2Proof.Machine.execUnsupportedF2 s
  | .unsupportedF3 => Sys2Proof.Machine.execUnsupportedF3 s
  | .unsupportedF4 => Sys2Proof.Machine.execUnsupportedF4 s
  | .unsupportedF5 => Sys2Proof.Machine.execUnsupportedF5 s
  | .unsupportedF6 => Sys2Proof.Machine.execUnsupportedF6 s
  | .unsupportedF7 => Sys2Proof.Machine.execUnsupportedF7 s
  | .unsupportedF8 => Sys2Proof.Machine.execUnsupportedF8 s
  | .unsupportedF9 => Sys2Proof.Machine.execUnsupportedF9 s
  | .unsupportedFA => Sys2Proof.Machine.execUnsupportedFA s
  | .unsupportedFB => Sys2Proof.Machine.execUnsupportedFB s
  | .unsupportedFC => Sys2Proof.Machine.execUnsupportedFC s
  | .unsupportedFD => Sys2Proof.Machine.execUnsupportedFD s
  | .unsupportedFE => Sys2Proof.Machine.execUnsupportedFE s
  | .unsupportedFF => Sys2Proof.Machine.execUnsupportedFF s

end Sys2Proof.Machine
end

