-- ==== Sys2Proof/Decode.lean ====
section
/-! DEFINITION. The opcode map both ways (spec/30_encoding.md R62 to R71): bytes to a request, a request to its bytes. The
operation is selected by the function code alone (R64). -/

namespace Sys2Proof

open Machine

/-- The operations of function codes 0x00 to 0x0F, by the code's low digit (R70). -/
def opcodeRow0 (lo : Nat) (p1 p2 : Word) : Instr :=
  match lo with
  | 0 => .unsupported00
  | 1 => .unsupported01
  | 2 => .unsupported02
  | 3 => .read p1 p2
  | 4 => .unsupported04
  | 5 => .unsupported05
  | 6 => .write p1 p2
  | 7 => .unsupported07
  | 8 => .unsupported08
  | 9 => .unsupported09
  | 10 => .unsupported0A
  | 11 => .unsupported0B
  | 12 => .unsupported0C
  | 13 => .unsupported0D
  | 14 => .unsupported0E
  | _ => .unsupported0F

/-- The operations of function codes 0x10 to 0x1F, by the code's low digit (R70). -/
def opcodeRow1 (lo : Nat) : Instr :=
  match lo with
  | 0 => .unsupported10
  | 1 => .unsupported11
  | 2 => .unsupported12
  | 3 => .unsupported13
  | 4 => .unsupported14
  | 5 => .unsupported15
  | 6 => .unsupported16
  | 7 => .unsupported17
  | 8 => .unsupported18
  | 9 => .unsupported19
  | 10 => .unsupported1A
  | 11 => .unsupported1B
  | 12 => .unsupported1C
  | 13 => .unsupported1D
  | 14 => .unsupported1E
  | _ => .unsupported1F

/-- The operations of function codes 0x20 to 0x2F, by the code's low digit (R70). -/
def opcodeRow2 (lo : Nat) : Instr :=
  match lo with
  | 0 => .unsupported20
  | 1 => .unsupported21
  | 2 => .unsupported22
  | 3 => .unsupported23
  | 4 => .unsupported24
  | 5 => .unsupported25
  | 6 => .unsupported26
  | 7 => .unsupported27
  | 8 => .unsupported28
  | 9 => .unsupported29
  | 10 => .unsupported2A
  | 11 => .unsupported2B
  | 12 => .unsupported2C
  | 13 => .unsupported2D
  | 14 => .unsupported2E
  | _ => .unsupported2F

/-- The operations of function codes 0x30 to 0x3F, by the code's low digit (R70). -/
def opcodeRow3 (lo : Nat) : Instr :=
  match lo with
  | 0 => .unsupported30
  | 1 => .unsupported31
  | 2 => .unsupported32
  | 3 => .unsupported33
  | 4 => .unsupported34
  | 5 => .unsupported35
  | 6 => .unsupported36
  | 7 => .unsupported37
  | 8 => .unsupported38
  | 9 => .unsupported39
  | 10 => .unsupported3A
  | 11 => .unsupported3B
  | 12 => .unsupported3C
  | 13 => .unsupported3D
  | 14 => .unsupported3E
  | _ => .unsupported3F

/-- The operations of function codes 0x40 to 0x4F, by the code's low digit (R70). -/
def opcodeRow4 (lo : Nat) : Instr :=
  match lo with
  | 0 => .unsupported40
  | 1 => .unsupported41
  | 2 => .unsupported42
  | 3 => .unsupported43
  | 4 => .unsupported44
  | 5 => .unsupported45
  | 6 => .unsupported46
  | 7 => .unsupported47
  | 8 => .unsupported48
  | 9 => .unsupported49
  | 10 => .unsupported4A
  | 11 => .unsupported4B
  | 12 => .unsupported4C
  | 13 => .unsupported4D
  | 14 => .unsupported4E
  | _ => .unsupported4F

/-- The operations of function codes 0x50 to 0x5F, by the code's low digit (R70). -/
def opcodeRow5 (lo : Nat) : Instr :=
  match lo with
  | 0 => .unsupported50
  | 1 => .unsupported51
  | 2 => .unsupported52
  | 3 => .unsupported53
  | 4 => .unsupported54
  | 5 => .unsupported55
  | 6 => .unsupported56
  | 7 => .unsupported57
  | 8 => .unsupported58
  | 9 => .unsupported59
  | 10 => .unsupported5A
  | 11 => .unsupported5B
  | 12 => .unsupported5C
  | 13 => .unsupported5D
  | 14 => .unsupported5E
  | _ => .unsupported5F

/-- The operations of function codes 0x60 to 0x6F, by the code's low digit (R70). -/
def opcodeRow6 (lo : Nat) : Instr :=
  match lo with
  | 0 => .unsupported60
  | 1 => .unsupported61
  | 2 => .unsupported62
  | 3 => .unsupported63
  | 4 => .unsupported64
  | 5 => .unsupported65
  | 6 => .unsupported66
  | 7 => .unsupported67
  | 8 => .unsupported68
  | 9 => .unsupported69
  | 10 => .unsupported6A
  | 11 => .unsupported6B
  | 12 => .unsupported6C
  | 13 => .unsupported6D
  | 14 => .unsupported6E
  | _ => .unsupported6F

/-- The operations of function codes 0x70 to 0x7F, by the code's low digit (R70). -/
def opcodeRow7 (lo : Nat) : Instr :=
  match lo with
  | 0 => .unsupported70
  | 1 => .unsupported71
  | 2 => .unsupported72
  | 3 => .unsupported73
  | 4 => .unsupported74
  | 5 => .unsupported75
  | 6 => .unsupported76
  | 7 => .unsupported77
  | 8 => .unsupported78
  | 9 => .unsupported79
  | 10 => .unsupported7A
  | 11 => .unsupported7B
  | 12 => .unsupported7C
  | 13 => .unsupported7D
  | 14 => .unsupported7E
  | _ => .unsupported7F

/-- The operations of function codes 0x80 to 0x8F, by the code's low digit (R70). -/
def opcodeRow8 (lo : Nat) : Instr :=
  match lo with
  | 0 => .unsupported80
  | 1 => .unsupported81
  | 2 => .unsupported82
  | 3 => .unsupported83
  | 4 => .unsupported84
  | 5 => .unsupported85
  | 6 => .unsupported86
  | 7 => .unsupported87
  | 8 => .unsupported88
  | 9 => .unsupported89
  | 10 => .unsupported8A
  | 11 => .unsupported8B
  | 12 => .unsupported8C
  | 13 => .unsupported8D
  | 14 => .unsupported8E
  | _ => .unsupported8F

/-- The operations of function codes 0x90 to 0x9F, by the code's low digit (R70). -/
def opcodeRow9 (lo : Nat) : Instr :=
  match lo with
  | 0 => .unsupported90
  | 1 => .unsupported91
  | 2 => .unsupported92
  | 3 => .unsupported93
  | 4 => .unsupported94
  | 5 => .unsupported95
  | 6 => .unsupported96
  | 7 => .unsupported97
  | 8 => .unsupported98
  | 9 => .unsupported99
  | 10 => .unsupported9A
  | 11 => .unsupported9B
  | 12 => .unsupported9C
  | 13 => .unsupported9D
  | 14 => .unsupported9E
  | _ => .unsupported9F

/-- The operations of function codes 0xA0 to 0xAF, by the code's low digit (R70). -/
def opcodeRowA (lo : Nat) : Instr :=
  match lo with
  | 0 => .unsupportedA0
  | 1 => .unsupportedA1
  | 2 => .unsupportedA2
  | 3 => .unsupportedA3
  | 4 => .unsupportedA4
  | 5 => .unsupportedA5
  | 6 => .unsupportedA6
  | 7 => .unsupportedA7
  | 8 => .unsupportedA8
  | 9 => .unsupportedA9
  | 10 => .unsupportedAA
  | 11 => .unsupportedAB
  | 12 => .unsupportedAC
  | 13 => .unsupportedAD
  | 14 => .unsupportedAE
  | _ => .unsupportedAF

/-- The operations of function codes 0xB0 to 0xBF, by the code's low digit (R70). -/
def opcodeRowB (lo : Nat) : Instr :=
  match lo with
  | 0 => .unsupportedB0
  | 1 => .unsupportedB1
  | 2 => .unsupportedB2
  | 3 => .unsupportedB3
  | 4 => .unsupportedB4
  | 5 => .unsupportedB5
  | 6 => .unsupportedB6
  | 7 => .unsupportedB7
  | 8 => .unsupportedB8
  | 9 => .unsupportedB9
  | 10 => .unsupportedBA
  | 11 => .unsupportedBB
  | 12 => .unsupportedBC
  | 13 => .unsupportedBD
  | 14 => .unsupportedBE
  | _ => .unsupportedBF

/-- The operations of function codes 0xC0 to 0xCF, by the code's low digit (R70). -/
def opcodeRowC (lo : Nat) : Instr :=
  match lo with
  | 0 => .unsupportedC0
  | 1 => .unsupportedC1
  | 2 => .unsupportedC2
  | 3 => .unsupportedC3
  | 4 => .unsupportedC4
  | 5 => .unsupportedC5
  | 6 => .unsupportedC6
  | 7 => .unsupportedC7
  | 8 => .unsupportedC8
  | 9 => .unsupportedC9
  | 10 => .unsupportedCA
  | 11 => .unsupportedCB
  | 12 => .unsupportedCC
  | 13 => .unsupportedCD
  | 14 => .unsupportedCE
  | _ => .unsupportedCF

/-- The operations of function codes 0xD0 to 0xDF, by the code's low digit (R70). -/
def opcodeRowD (lo : Nat) : Instr :=
  match lo with
  | 0 => .unsupportedD0
  | 1 => .unsupportedD1
  | 2 => .unsupportedD2
  | 3 => .unsupportedD3
  | 4 => .unsupportedD4
  | 5 => .unsupportedD5
  | 6 => .unsupportedD6
  | 7 => .unsupportedD7
  | 8 => .unsupportedD8
  | 9 => .unsupportedD9
  | 10 => .unsupportedDA
  | 11 => .unsupportedDB
  | 12 => .unsupportedDC
  | 13 => .unsupportedDD
  | 14 => .unsupportedDE
  | _ => .unsupportedDF

/-- The operations of function codes 0xE0 to 0xEF, by the code's low digit (R70). -/
def opcodeRowE (lo : Nat) : Instr :=
  match lo with
  | 0 => .unsupportedE0
  | 1 => .unsupportedE1
  | 2 => .unsupportedE2
  | 3 => .unsupportedE3
  | 4 => .unsupportedE4
  | 5 => .unsupportedE5
  | 6 => .unsupportedE6
  | 7 => .unsupportedE7
  | 8 => .unsupportedE8
  | 9 => .unsupportedE9
  | 10 => .unsupportedEA
  | 11 => .unsupportedEB
  | 12 => .unsupportedEC
  | 13 => .unsupportedED
  | 14 => .unsupportedEE
  | _ => .unsupportedEF

/-- The operations of function codes 0xF0 to 0xFF, by the code's low digit (R70). -/
def opcodeRowF (lo : Nat) : Instr :=
  match lo with
  | 0 => .unsupportedF0
  | 1 => .unsupportedF1
  | 2 => .unsupportedF2
  | 3 => .unsupportedF3
  | 4 => .unsupportedF4
  | 5 => .unsupportedF5
  | 6 => .unsupportedF6
  | 7 => .unsupportedF7
  | 8 => .unsupportedF8
  | 9 => .unsupportedF9
  | 10 => .unsupportedFA
  | 11 => .unsupportedFB
  | 12 => .unsupportedFC
  | 13 => .unsupportedFD
  | 14 => .unsupportedFE
  | _ => .unsupportedFF

/-- The operation a function code selects, with its operands (R70, R78): the map is total. -/
def opcode (func : Byte) (p1 p2 : Word) : Instr :=
  match func.toNat / 16 with
  | 0 => opcodeRow0 (func.toNat % 16) p1 p2
  | 1 => opcodeRow1 (func.toNat % 16)
  | 2 => opcodeRow2 (func.toNat % 16)
  | 3 => opcodeRow3 (func.toNat % 16)
  | 4 => opcodeRow4 (func.toNat % 16)
  | 5 => opcodeRow5 (func.toNat % 16)
  | 6 => opcodeRow6 (func.toNat % 16)
  | 7 => opcodeRow7 (func.toNat % 16)
  | 8 => opcodeRow8 (func.toNat % 16)
  | 9 => opcodeRow9 (func.toNat % 16)
  | 10 => opcodeRowA (func.toNat % 16)
  | 11 => opcodeRowB (func.toNat % 16)
  | 12 => opcodeRowC (func.toNat % 16)
  | 13 => opcodeRowD (func.toNat % 16)
  | 14 => opcodeRowE (func.toNat % 16)
  | _ => opcodeRowF (func.toNat % 16)

/-- The function code of an operation and the operands it interprets, as `P1` and `P2` (R70, R78). -/
def operation : Instr → Byte × Option (Word × Word)
  | .unsupported00 => (0x00, none)
  | .unsupported01 => (0x01, none)
  | .unsupported02 => (0x02, none)
  | .read p1 p2 => (0x03, some (p1, p2))
  | .unsupported04 => (0x04, none)
  | .unsupported05 => (0x05, none)
  | .write p1 p2 => (0x06, some (p1, p2))
  | .unsupported07 => (0x07, none)
  | .unsupported08 => (0x08, none)
  | .unsupported09 => (0x09, none)
  | .unsupported0A => (0x0A, none)
  | .unsupported0B => (0x0B, none)
  | .unsupported0C => (0x0C, none)
  | .unsupported0D => (0x0D, none)
  | .unsupported0E => (0x0E, none)
  | .unsupported0F => (0x0F, none)
  | .unsupported10 => (0x10, none)
  | .unsupported11 => (0x11, none)
  | .unsupported12 => (0x12, none)
  | .unsupported13 => (0x13, none)
  | .unsupported14 => (0x14, none)
  | .unsupported15 => (0x15, none)
  | .unsupported16 => (0x16, none)
  | .unsupported17 => (0x17, none)
  | .unsupported18 => (0x18, none)
  | .unsupported19 => (0x19, none)
  | .unsupported1A => (0x1A, none)
  | .unsupported1B => (0x1B, none)
  | .unsupported1C => (0x1C, none)
  | .unsupported1D => (0x1D, none)
  | .unsupported1E => (0x1E, none)
  | .unsupported1F => (0x1F, none)
  | .unsupported20 => (0x20, none)
  | .unsupported21 => (0x21, none)
  | .unsupported22 => (0x22, none)
  | .unsupported23 => (0x23, none)
  | .unsupported24 => (0x24, none)
  | .unsupported25 => (0x25, none)
  | .unsupported26 => (0x26, none)
  | .unsupported27 => (0x27, none)
  | .unsupported28 => (0x28, none)
  | .unsupported29 => (0x29, none)
  | .unsupported2A => (0x2A, none)
  | .unsupported2B => (0x2B, none)
  | .unsupported2C => (0x2C, none)
  | .unsupported2D => (0x2D, none)
  | .unsupported2E => (0x2E, none)
  | .unsupported2F => (0x2F, none)
  | .unsupported30 => (0x30, none)
  | .unsupported31 => (0x31, none)
  | .unsupported32 => (0x32, none)
  | .unsupported33 => (0x33, none)
  | .unsupported34 => (0x34, none)
  | .unsupported35 => (0x35, none)
  | .unsupported36 => (0x36, none)
  | .unsupported37 => (0x37, none)
  | .unsupported38 => (0x38, none)
  | .unsupported39 => (0x39, none)
  | .unsupported3A => (0x3A, none)
  | .unsupported3B => (0x3B, none)
  | .unsupported3C => (0x3C, none)
  | .unsupported3D => (0x3D, none)
  | .unsupported3E => (0x3E, none)
  | .unsupported3F => (0x3F, none)
  | .unsupported40 => (0x40, none)
  | .unsupported41 => (0x41, none)
  | .unsupported42 => (0x42, none)
  | .unsupported43 => (0x43, none)
  | .unsupported44 => (0x44, none)
  | .unsupported45 => (0x45, none)
  | .unsupported46 => (0x46, none)
  | .unsupported47 => (0x47, none)
  | .unsupported48 => (0x48, none)
  | .unsupported49 => (0x49, none)
  | .unsupported4A => (0x4A, none)
  | .unsupported4B => (0x4B, none)
  | .unsupported4C => (0x4C, none)
  | .unsupported4D => (0x4D, none)
  | .unsupported4E => (0x4E, none)
  | .unsupported4F => (0x4F, none)
  | .unsupported50 => (0x50, none)
  | .unsupported51 => (0x51, none)
  | .unsupported52 => (0x52, none)
  | .unsupported53 => (0x53, none)
  | .unsupported54 => (0x54, none)
  | .unsupported55 => (0x55, none)
  | .unsupported56 => (0x56, none)
  | .unsupported57 => (0x57, none)
  | .unsupported58 => (0x58, none)
  | .unsupported59 => (0x59, none)
  | .unsupported5A => (0x5A, none)
  | .unsupported5B => (0x5B, none)
  | .unsupported5C => (0x5C, none)
  | .unsupported5D => (0x5D, none)
  | .unsupported5E => (0x5E, none)
  | .unsupported5F => (0x5F, none)
  | .unsupported60 => (0x60, none)
  | .unsupported61 => (0x61, none)
  | .unsupported62 => (0x62, none)
  | .unsupported63 => (0x63, none)
  | .unsupported64 => (0x64, none)
  | .unsupported65 => (0x65, none)
  | .unsupported66 => (0x66, none)
  | .unsupported67 => (0x67, none)
  | .unsupported68 => (0x68, none)
  | .unsupported69 => (0x69, none)
  | .unsupported6A => (0x6A, none)
  | .unsupported6B => (0x6B, none)
  | .unsupported6C => (0x6C, none)
  | .unsupported6D => (0x6D, none)
  | .unsupported6E => (0x6E, none)
  | .unsupported6F => (0x6F, none)
  | .unsupported70 => (0x70, none)
  | .unsupported71 => (0x71, none)
  | .unsupported72 => (0x72, none)
  | .unsupported73 => (0x73, none)
  | .unsupported74 => (0x74, none)
  | .unsupported75 => (0x75, none)
  | .unsupported76 => (0x76, none)
  | .unsupported77 => (0x77, none)
  | .unsupported78 => (0x78, none)
  | .unsupported79 => (0x79, none)
  | .unsupported7A => (0x7A, none)
  | .unsupported7B => (0x7B, none)
  | .unsupported7C => (0x7C, none)
  | .unsupported7D => (0x7D, none)
  | .unsupported7E => (0x7E, none)
  | .unsupported7F => (0x7F, none)
  | .unsupported80 => (0x80, none)
  | .unsupported81 => (0x81, none)
  | .unsupported82 => (0x82, none)
  | .unsupported83 => (0x83, none)
  | .unsupported84 => (0x84, none)
  | .unsupported85 => (0x85, none)
  | .unsupported86 => (0x86, none)
  | .unsupported87 => (0x87, none)
  | .unsupported88 => (0x88, none)
  | .unsupported89 => (0x89, none)
  | .unsupported8A => (0x8A, none)
  | .unsupported8B => (0x8B, none)
  | .unsupported8C => (0x8C, none)
  | .unsupported8D => (0x8D, none)
  | .unsupported8E => (0x8E, none)
  | .unsupported8F => (0x8F, none)
  | .unsupported90 => (0x90, none)
  | .unsupported91 => (0x91, none)
  | .unsupported92 => (0x92, none)
  | .unsupported93 => (0x93, none)
  | .unsupported94 => (0x94, none)
  | .unsupported95 => (0x95, none)
  | .unsupported96 => (0x96, none)
  | .unsupported97 => (0x97, none)
  | .unsupported98 => (0x98, none)
  | .unsupported99 => (0x99, none)
  | .unsupported9A => (0x9A, none)
  | .unsupported9B => (0x9B, none)
  | .unsupported9C => (0x9C, none)
  | .unsupported9D => (0x9D, none)
  | .unsupported9E => (0x9E, none)
  | .unsupported9F => (0x9F, none)
  | .unsupportedA0 => (0xA0, none)
  | .unsupportedA1 => (0xA1, none)
  | .unsupportedA2 => (0xA2, none)
  | .unsupportedA3 => (0xA3, none)
  | .unsupportedA4 => (0xA4, none)
  | .unsupportedA5 => (0xA5, none)
  | .unsupportedA6 => (0xA6, none)
  | .unsupportedA7 => (0xA7, none)
  | .unsupportedA8 => (0xA8, none)
  | .unsupportedA9 => (0xA9, none)
  | .unsupportedAA => (0xAA, none)
  | .unsupportedAB => (0xAB, none)
  | .unsupportedAC => (0xAC, none)
  | .unsupportedAD => (0xAD, none)
  | .unsupportedAE => (0xAE, none)
  | .unsupportedAF => (0xAF, none)
  | .unsupportedB0 => (0xB0, none)
  | .unsupportedB1 => (0xB1, none)
  | .unsupportedB2 => (0xB2, none)
  | .unsupportedB3 => (0xB3, none)
  | .unsupportedB4 => (0xB4, none)
  | .unsupportedB5 => (0xB5, none)
  | .unsupportedB6 => (0xB6, none)
  | .unsupportedB7 => (0xB7, none)
  | .unsupportedB8 => (0xB8, none)
  | .unsupportedB9 => (0xB9, none)
  | .unsupportedBA => (0xBA, none)
  | .unsupportedBB => (0xBB, none)
  | .unsupportedBC => (0xBC, none)
  | .unsupportedBD => (0xBD, none)
  | .unsupportedBE => (0xBE, none)
  | .unsupportedBF => (0xBF, none)
  | .unsupportedC0 => (0xC0, none)
  | .unsupportedC1 => (0xC1, none)
  | .unsupportedC2 => (0xC2, none)
  | .unsupportedC3 => (0xC3, none)
  | .unsupportedC4 => (0xC4, none)
  | .unsupportedC5 => (0xC5, none)
  | .unsupportedC6 => (0xC6, none)
  | .unsupportedC7 => (0xC7, none)
  | .unsupportedC8 => (0xC8, none)
  | .unsupportedC9 => (0xC9, none)
  | .unsupportedCA => (0xCA, none)
  | .unsupportedCB => (0xCB, none)
  | .unsupportedCC => (0xCC, none)
  | .unsupportedCD => (0xCD, none)
  | .unsupportedCE => (0xCE, none)
  | .unsupportedCF => (0xCF, none)
  | .unsupportedD0 => (0xD0, none)
  | .unsupportedD1 => (0xD1, none)
  | .unsupportedD2 => (0xD2, none)
  | .unsupportedD3 => (0xD3, none)
  | .unsupportedD4 => (0xD4, none)
  | .unsupportedD5 => (0xD5, none)
  | .unsupportedD6 => (0xD6, none)
  | .unsupportedD7 => (0xD7, none)
  | .unsupportedD8 => (0xD8, none)
  | .unsupportedD9 => (0xD9, none)
  | .unsupportedDA => (0xDA, none)
  | .unsupportedDB => (0xDB, none)
  | .unsupportedDC => (0xDC, none)
  | .unsupportedDD => (0xDD, none)
  | .unsupportedDE => (0xDE, none)
  | .unsupportedDF => (0xDF, none)
  | .unsupportedE0 => (0xE0, none)
  | .unsupportedE1 => (0xE1, none)
  | .unsupportedE2 => (0xE2, none)
  | .unsupportedE3 => (0xE3, none)
  | .unsupportedE4 => (0xE4, none)
  | .unsupportedE5 => (0xE5, none)
  | .unsupportedE6 => (0xE6, none)
  | .unsupportedE7 => (0xE7, none)
  | .unsupportedE8 => (0xE8, none)
  | .unsupportedE9 => (0xE9, none)
  | .unsupportedEA => (0xEA, none)
  | .unsupportedEB => (0xEB, none)
  | .unsupportedEC => (0xEC, none)
  | .unsupportedED => (0xED, none)
  | .unsupportedEE => (0xEE, none)
  | .unsupportedEF => (0xEF, none)
  | .unsupportedF0 => (0xF0, none)
  | .unsupportedF1 => (0xF1, none)
  | .unsupportedF2 => (0xF2, none)
  | .unsupportedF3 => (0xF3, none)
  | .unsupportedF4 => (0xF4, none)
  | .unsupportedF5 => (0xF5, none)
  | .unsupportedF6 => (0xF6, none)
  | .unsupportedF7 => (0xF7, none)
  | .unsupportedF8 => (0xF8, none)
  | .unsupportedF9 => (0xF9, none)
  | .unsupportedFA => (0xFA, none)
  | .unsupportedFB => (0xFB, none)
  | .unsupportedFC => (0xFC, none)
  | .unsupportedFD => (0xFD, none)
  | .unsupportedFE => (0xFE, none)
  | .unsupportedFF => (0xFF, none)

/-- The function code of an operation. -/
def Instr.func (i : Instr) : Byte := (operation i).1

/-- Operand assembly: parameters big-endian (R47, R65), CRC little-endian (R49, R66). -/
def fieldsOfFrame (f : Frame) : Fields :=
  { addr := f.addr, func := f.func, p1 := join f.p1Hi f.p1Lo, p2 := join f.p2Hi f.p2Lo, crc := join f.crcHi f.crcLo }

/-- The operation interprets `P1` and `P2` (R78). -/
def Instr.interprets (i : Instr) : Bool := (operation i).2.isSome

/-- The request with the given fields. Parameters that the operation does not interpret are kept as received (R78). -/
def requestOfFields (f : Fields) : Request :=
  let i := opcode f.func f.p1 f.p2
  { addr := f.addr, instr := i, unread1 := if i.interprets then 0 else f.p1,
    unread2 := if i.interprets then 0 else f.p2, crc := f.crc }

/-- The request a frame stands for; every eight bytes are one (R70, R71). -/
def decodeFrame (f : Frame) : Request := requestOfFields (fieldsOfFrame f)

/-- The operation a frame stands for. -/
def decodeInstr (f : Frame) : Instr := (decodeFrame f).instr

/-- Why bytes are no request. -/
inductive DecodeError where
  /-- Fewer than eight bytes: no frame yet (R75). -/
  | frameIncomplete
  deriving DecidableEq, Repr

/-- The request at the head of a byte stream and the bytes after it: always eight bytes (R61, R75). -/
def decode (b : List Byte) : Except DecodeError (Request × List Byte) :=
  match takeFrame b with
  | some (f, rest) => .ok (decodeFrame f, rest)
  | none => .error .frameIncomplete

/-- The operation of one opcode-table word. The table writes a request as one 64-bit word with byte 0 most significant
(R63), so `func` is bits 55 to 48 (log 15). Bits at or above `nbits` are 0. -/
def decodeTableWord (nbits w : Nat) : Option Instr :=
  match decode (frameBytes (frameOfWord (BitVec.ofNat 64 (w % 2 ^ nbits)))) with
  | .ok (r, _) => some r.instr
  | .error _ => none

/-- The fields of a request (R62): the parameters are the operands the operation interprets, else the ones received. -/
def fieldsOf (r : Request) : Fields :=
  { addr := r.addr
    func := r.instr.func
    p1 := ((operation r.instr).2.map Prod.fst).getD r.unread1
    p2 := ((operation r.instr).2.map Prod.snd).getD r.unread2
    crc := r.crc }

/-- The frame with the given fields: the layout of R62. -/
def frameOfFields (f : Fields) : Frame :=
  { addr := f.addr, func := f.func, p1Hi := hi8 f.p1, p1Lo := lo8 f.p1, p2Hi := hi8 f.p2, p2Lo := lo8 f.p2,
    crcLo := lo8 f.crc, crcHi := hi8 f.crc }

/-- The frame of a request. -/
def encode (r : Request) : Frame := frameOfFields (fieldsOf r)

/-- The eight bytes of a request, in wire order. -/
def encodeBytes (r : Request) : List Byte := frameBytes (encode r)

end Sys2Proof
end

