-- ==== Sys2Proof/Machine/Operands.lean ====
section
/-! DEFINITION. The structured request `rq = (fc, P1, P2)`, a view of the request buffer (spec/10_state.md R26,
spec/30_encoding.md R64 to R66). -/

namespace Sys2Proof.Machine

/-- `rq.fc = req[1]` (R107). -/
def rqFc (s : State) : Byte := s.req.func

/-- `rq.P1 = req[2] * 256 + req[3]` (R65, R107). -/
def rqP1 (s : State) : Word := join s.req.p1Hi s.req.p1Lo

/-- `rq.P2 = req[4] * 256 + req[5]` (R65, R107). -/
def rqP2 (s : State) : Word := join s.req.p2Hi s.req.p2Lo

/-- The operation in the request buffer, its operands assembled (R70, R107). -/
def requested (s : State) : Instr := decodeInstr s.req

end Sys2Proof.Machine
end

