-- ==== Sys2Proof/Machine/Phases.lean ====
section
/-! DEFINITION. The phases of the polling loop, one function each, with the transitions of
spec/45_polling_loop_fsm.md R146, and the phase action of one step. `CONSUME`, `EMIT` and `DRAIN` move one byte a step
(log 1). -/

namespace Sys2Proof.Machine

/-- `IDLE`: wait for `tick`; the pulse on `done` ends (R145). -/
def phaseIdle (tick : Bool) (s : State) : Result :=
  .next { s with done := false, pc := if tick then .refresh else .idle }

/-- `REFRESH`: commit the pending configuration, then refresh (R132). -/
def phaseRefresh (s : State) : Result := .next (gotoPhase .gate (refresh (commit s)))

/-- `GATE`: one sample of `Avail()`; eight bytes or more are a frame (R103, R133). -/
def phaseGate (s : State) : Result :=
  if 8 ≤ avail s then .next { gotoPhase .consume s with k := 0 }
  else .next (raiseEvent .frameIncomplete 0 .output s)

/-- `CONSUME`: byte `k` of the frame, the eighth ending the phase (R104). -/
def phaseConsume (s : State) : Result :=
  if s.k < 8 then
    match readByte s with
    | some (b, s') =>
      .next { s' with req := setByte s.req s.k b, k := s.k + 1, pc := if s.k + 1 < 8 then .consume else .checkAddr }
    | none => .refused .readByteEmpty
  else .next (gotoPhase .checkAddr s)

/-- `CHECK_ADDR`: byte 0 equals the active slave address, or the frame is dropped (R105). -/
def phaseCheckAddr (s : State) : Result :=
  if s.req.addr = s.cfg.slaveAddr then .next (gotoPhase .checkCrc s)
  else .next (raiseEvent .addressMismatch 0 .drain s)

/-- `CHECK_CRC`: `CrcVerify(req, 6)`, or the frame is dropped; the accumulator holds the recomputed CRC (R28, R106). -/
def phaseCheckCrc (s : State) : Result :=
  match crcVerify (frameBytes s.req) 6 with
  | some true => .next { gotoPhase .dispatch s with crc := crc16 (frameBody s.req) }
  | some false => .next { raiseEvent .crcMismatch 0 .drain s with crc := crc16 (frameBody s.req) }
  | none => .refused .crcVerifyShort

/-- The phase in which the request with a given function code has its effect (R111, R130). -/
def executionPhase (func : Byte) : Phase :=
  if func = 0x03 then .execRead else if func = 0x06 then .execWrite else .dispatch

/-- `DISPATCH`: select by function code; an unsupported code has its whole effect here (R111). -/
def phaseDispatch (s : State) : Result :=
  if executionPhase (rqFc s) = .dispatch then exec (requested s) s else .next (gotoPhase (executionPhase (rqFc s)) s)

/-- `EMIT`: byte `k` of the response to the sink; the last ends the phase (R128, R135). -/
def phaseEmit (s : State) : Result :=
  match s.resp[s.k]? with
  | some b =>
    .next { sinkWrite [b] s with k := s.k + 1, pc := if s.k + 1 < s.resp.length then .emit else .drain }
  | none => .next (gotoPhase .drain s)

/-- `DRAIN`: one sample of `Avail()`; a byte is removed unseen, or the phase ends (R136). Nothing bounds the number of
samples; that the phase ends rests on the premise of R138, which the finite schedule `env` builds in (log 23). -/
def phaseDrain (s : State) : Result :=
  match readByte s with
  | some (_, s') => .next s'
  | none => .next (gotoPhase .output s)

/-- `OUTPUT`: project `x[cfg.led_index]`, latch the event, back to `IDLE` (R139, R140, R141). -/
def phaseOutput (s : State) : Result :=
  match rawRead s s.cfg.ledIndex with
  | some v => .next (latchOutcome (setOutput (active v) s))
  | none => .fault .storeIndex

/-- The action of the phase the machine is in. `tick` counts in `IDLE` only (R143, R145). -/
def phaseAction (tick : Bool) (s : State) : Result :=
  match s.pc with
  | .idle => phaseIdle tick s
  | .refresh => phaseRefresh s
  | .gate => phaseGate s
  | .consume => phaseConsume s
  | .checkAddr => phaseCheckAddr s
  | .checkCrc => phaseCheckCrc s
  | .dispatch => phaseDispatch s
  | .execRead => exec (requested s) s
  | .execWrite => exec (requested s) s
  | .emit => phaseEmit s
  | .drain => phaseDrain s
  | .output => phaseOutput s

end Sys2Proof.Machine
end

