-- ==== Sys2Proof/Machine/Ports.lean ====
section
/-! DEFINITION. One clock cycle: its inputs (spec/10_state.md R34), arriving bytes (R31), reset (R177), the phase action
and the setter strobes (spec/46_configuration.md R148, R149, R151). -/

namespace Sys2Proof.Machine

/-- The inputs of the cycle that starts now: the next scheduled ones, else idle inputs (log 3). -/
def portsNow (s : State) : PortIn :=
  match s.env with
  | [] => PortIn.idle
  | p :: _ => p

/-- The state with this cycle's inputs taken from the schedule. -/
def takePorts (s : State) : State := { s with env := s.env.tail }

/-- The receive queue has room for the arriving bytes: always when nothing arrives or `RX_CAP` is unbounded (D19). -/
def hasRoom (s : State) (rx : List Byte) : Bool :=
  match s.par.rxCap with
  | none => true
  | some cap => rx.isEmpty || s.rxq.length + rx.length ≤ cap

/-- Bytes enter the receive queue at the tail, in the order they arrive (R31, R40). -/
def arrive (rx : List Byte) (s : State) : State := { s with rxq := s.rxq ++ rx }

/-- The setter strobes of a cycle; the two do not interact (U13). -/
def applyStrobes (p : PortIn) (s : State) : State :=
  let s1 := match p.cfgAddr with
    | some v => setSlaveAddr v s
    | none => s
  match p.cfgLed with
  | some n => setLedIndex n.toNat s1
  | none => s1

/-- One cycle with inputs `p`: the bytes arrive; `rst` overrides everything else (R177); otherwise the phase acts on the
state as the cycle finds it, and the strobes write the pending copies (R151; the order is log 3 and log 4). -/
def cycle (p : PortIn) (s : State) : Result :=
  if hasRoom s p.rx then
    if p.rst then .next (resetEngine (arrive p.rx s))
    else thenDo (phaseAction p.tick (arrive p.rx s)) fun t => .next (applyStrobes p t)
  else .refused .rxOverflow

/-- The state in which the very next cycle runs the request with the frame `f` and nothing else: the frame is in the
request buffer, where every request is decoded from, the phase is the one in which that request has its effect, and an
idle cycle comes before any scheduled one (log 15). -/
def readyToRun (f : Frame) (s : State) : State :=
  { s with
    req := f
    pc := executionPhase f.func
    env := match s.env with
      | [] => []
      | q => PortIn.idle :: q }

end Sys2Proof.Machine
end

