-- ==== Sys2Proof/Machine/Step.lean ====
section
/-! DEFINITION. One step of the machine: one clock cycle with the inputs the schedule holds for it. -/

namespace Sys2Proof.Machine

/-- One step (R131, R146): the cycle's inputs are taken from the schedule and the cycle runs with them. -/
def step (s : State) : Host.Outcome State Fault Refusal := cycle (portsNow s) (takePorts s)

/-- The state with the request of the opcode-table word `w` placed where the next step runs it (log 15). The table's
word has byte 0 most significant (R63); bits at or above `nbits` are 0. -/
def State.withFetchWord (s : State) (nbits w : Nat) : State :=
  readyToRun (frameOfWord (BitVec.ofNat 64 (w % 2 ^ nbits))) s

end Sys2Proof.Machine
end

