-- ==== Sys2Proof/Machine/Tick.lean ====
section
/-! DEFINITION. The whole tick in one function, after the pseudocode of spec/45_polling_loop_fsm.md R131, with no byte
arriving during it (`ATOMIC_TICK`, R144). The machine's step is phase by phase (Step.lean); that a tick's phases come to
this function is an obligation. -/

namespace Sys2Proof.Machine

/-- From `CHECK_ADDR` to the request's effect: the checks in their order, then the request (R108, R131). -/
def checkAndExecute (s : State) : Result :=
  if s.req.addr ≠ s.cfg.slaveAddr then .next (raiseEvent .addressMismatch 0 .drain s)
  else
    match crcVerify (frameBytes s.req) 6 with
    | some true => exec (requested s) { s with crc := crc16 (frameBody s.req) }
    | some false => .next { raiseEvent .crcMismatch 0 .drain s with crc := crc16 (frameBody s.req) }
    | none => .refused .crcVerifyShort

/-- `SinkWrite(resp)` if `resp_len > 0` (R128). -/
def emitResponse (s : State) : State :=
  if 0 < s.resp.length then { sinkWrite s.resp s with k := s.resp.length } else s

/-- The drain under `ATOMIC_TICK`: no byte arrives, so every byte still buffered is removed and the premise of R138 holds
of itself (R136, R138; log 21). -/
def drainAll (s : State) : State := { s with rxq := [] }

/-- One tick (R131). -/
def tick (s : State) : Result :=
  let s1 := refresh (commit { s with done := false })
  if 8 ≤ avail s1 then
    match takeFrame s1.rxq with
    | some (f, rest) =>
      thenDo (checkAndExecute { s1 with req := f, k := 8, rxq := rest }) fun t => phaseOutput (drainAll (emitResponse t))
    | none => .refused .readByteEmpty
  else phaseOutput (raiseEvent .frameIncomplete 0 .output s1)

end Sys2Proof.Machine
end

