-- ==== Sys2Proof/WellFormed.lean ====
section
/-! DEFINITION. Which requests are well formed (spec/30_encoding.md R62, R71, R76, R78). Every address, parameter and
function code is legal (R72 to R74). -/

namespace Sys2Proof

open Machine

/-- The CRC word a request with these fields must carry: the CRC of its first six bytes (R62, R76, R88). -/
def requiredCrc (f : Fields) : Word := crc16 (frameBody (frameOfFields f))

/-- The CRC word is right: the request passes the CRC check (R71, R88). The address is no part of it: which addresses
are executed depends on the configuration (R71, R73). -/
def Request.crcRight (r : Request) : Bool := (fieldsOf r).crc == requiredCrc (fieldsOf r)

/-- An operation that interprets `P1` and `P2` leaves nothing unread, so that a request has one term (R78). -/
def Request.nothingUnread (r : Request) : Bool :=
  !r.instr.interprets || (r.unread1 == 0 && r.unread2 == 0)

/-- A well-formed request. -/
def Request.wf (r : Request) : Bool := r.crcRight && r.nothingUnread

end Sys2Proof
end

