-- ==== Sys2Proof/Safety.lean ====
section
/-! DEFINITION. What a good state is, and the terms claims use. -/

namespace Sys2Proof.Machine

/-- The state as the phase action of the coming cycle finds it: inputs taken, arriving bytes in the queue (R31, R144). -/
def seen (s : State) : State := arrive (portsNow s).rx (takePorts s)

/-- The bytes still to arrive: the premise of R138, that they are finitely many, is that this is a number (log 23). -/
def arriving (s : State) : Nat := (s.env.map fun p => p.rx.length).sum

/-- `n` steps of the machine, stopping at the first fault or refusal. -/
def run (n : Nat) (s : State) : Result := Sys2Proof.core.run n s

/-- The CRC word in the request buffer: `crc_rx = {req[7], req[6]}` (R66). -/
def rqCrc (s : State) : Word := join s.req.crcHi s.req.crcLo

/-- The request buffer holds a frame that passed the address and CRC checks (R105, R106). -/
abbrev validRequest (s : State) : Prop := s.req.addr = s.cfg.slaveAddr ∧ crc16 (frameBody s.req) = rqCrc s

/-- The phases in which a tick has raised no event and built no response yet (R146). -/
def beforeEffect (p : Phase) : Bool :=
  p matches .gate | .consume | .checkAddr | .checkCrc | .dispatch | .execRead | .execWrite

/-- What each phase may rely on (R130, R146). -/
abbrev phaseInv (s : State) : Prop :=
  (s.pc ≠ .idle → s.done = false) ∧ (beforeEffect s.pc → s.resp = []) ∧
    (s.pc = .consume → s.k < 8 ∧ 8 ≤ s.k + s.rxq.length) ∧
    (s.pc = .checkCrc → s.req.addr = s.cfg.slaveAddr) ∧ (s.pc = .dispatch → validRequest s) ∧
    (s.pc = .execRead → validRequest s ∧ s.req.func = 0x03) ∧
    (s.pc = .execWrite → validRequest s ∧ s.req.func = 0x06) ∧
    (s.pc = .emit → s.k < s.resp.length ∧ s.out ∈ [Event.readOk, .writeOk, .writeOutOfRangeAck]) ∧
    (s.pc = .drain → s.out ∉ [Event.none, .frameIncomplete]) ∧ (s.pc = .output → s.out ≠ .none)

/-- The invariant of every state a run reaches: the instance is legal (R9), the register file has its fixed length
(R16), both side-effect indices exist (R21, R24), the response fits its buffer (R126), the receive queue its capacity
(D19), `oor_info` is non-zero exactly for `OUT_OF_RANGE_READ` (R163), and the phase's own premises hold. -/
abbrev Inv (s : State) : Prop :=
  s.par.wf ∧ Memory.wf s ∧ s.cfg.ledIndex < s.par.registerCount ∧ s.shadow.ledIndex < s.par.registerCount ∧
    s.resp.length ≤ s.par.respCap ∧ (s.par.rxCap.all fun cap => s.rxq.length ≤ cap) ∧
    (s.out = .outOfRangeRead ↔ s.outInfo ≠ 0) ∧ (s.outcome = .outOfRangeRead ↔ s.oorInfo ≠ 0) ∧ phaseInv s

/-- The `n`-th draw still to come from a source, counted from 0: an injected value, or the free value of its number
(R99; log 8). -/
def upcoming (src : Source) (n : Nat) : Word :=
  match src.queue[n]? with
  | some d => d
  | none => BitVec.ofNat 16 (1 + (Config.telemetry (src.taken + n)).val)

/-- The source after `n` draws. -/
def afterDraws (src : Source) (n : Nat) : Source := { queue := src.queue.drop n, taken := src.taken + n }

/-- The number of the draw that register `j` takes in a refresh that skips `reserved` (R98). -/
def drawIndex (reserved j : Nat) : Nat := if j < reserved then j else j - 1

/-- Register `j` as the dispatcher sees it in the tick that starts in `s`: the pending side-effect register keeps its
value, every other one holds its draw (R58 items 1 and 5, R98). -/
def dispatched (s : State) (j : Nat) : Option Word :=
  if j < s.par.registerCount then
    if j = s.shadow.ledIndex then s.x[j]? else some (upcoming s.rnd (drawIndex s.shadow.ledIndex j))
  else none

/-- `b` with one bit of byte `j` inverted (R90). -/
def flipBit (b : List Byte) (j n : Nat) : List Byte := b.modify j (· ^^^ BitVec.twoPow 8 n)

end Sys2Proof.Machine
end

