-- ==== Sys2Proof/Certificates/Slice0/Obligations.lean ====
section
/-! DEFINITION. The statements put to the provers. Each docstring names the rule of spec/ or the sections it rests on. -/

open Sys2Proof Sys2Proof.Machine

/-! ### Encoding -/

/-- Decoding an encoded well-formed request gives the request back, whatever bytes follow it. -/
def Obligations.DecodeUndoesEncode : Prop :=
  ∀ (r : Request) (rest : List Byte), r.wf = true → decode (encodeBytes r ++ rest) = .ok (r, rest)

/-- Encoding a decoded frame gives the frame back: no bit of a request is dropped; and the decoded request is well
formed exactly when the frame passes the CRC check. -/
def Obligations.EncodeUndoesDecode : Prop :=
  ∀ f : Frame, encode (decodeFrame f) = f ∧
    ((decodeFrame f).wf = true ↔ crcVerify (frameBytes f) 6 = some true)

/-- R64: byte 1 is the whole opcode. -/
def Obligations.FunctionByteAloneSelects : Prop :=
  (∀ f g : Frame, f.func = g.func → (decodeInstr f).func = (decodeInstr g).func) ∧
    ∀ f : Frame, (decodeInstr f).func = f.func ∧
      (f.func = 0x03 ↔ ∃ start count, decodeInstr f = .read start count) ∧
      (f.func = 0x06 ↔ ∃ reg value, decodeInstr f = .write reg value)

/-- R78 with R65: which field each operation takes for which operand, as numbers. -/
def Obligations.OperandsAreBigEndian : Prop :=
  ∀ f : Frame,
    (f.func = 0x03 → ∃ start count, decodeInstr f = .read start count ∧
      start.toNat = f.p1Hi.toNat * 256 + f.p1Lo.toNat ∧ count.toNat = f.p2Hi.toNat * 256 + f.p2Lo.toNat) ∧
    (f.func = 0x06 → ∃ reg value, decodeInstr f = .write reg value ∧
      reg.toNat = f.p1Hi.toNat * 256 + f.p1Lo.toNat ∧ value.toNat = f.p2Hi.toNat * 256 + f.p2Lo.toNat) ∧
    (f.func ≠ 0x03 → f.func ≠ 0x06 → (decodeFrame f).unread1.toNat = f.p1Hi.toNat * 256 + f.p1Lo.toNat ∧
      (decodeFrame f).unread2.toNat = f.p2Hi.toNat * 256 + f.p2Lo.toNat)

/-- R66: the received CRC is little-endian. -/
def Obligations.ReceivedCrcIsLittleEndian : Prop :=
  ∀ f : Frame, (decodeFrame f).crc.toNat = f.crcHi.toNat * 256 + f.crcLo.toNat

/-- The decoder takes exactly eight bytes, and fewer are no frame yet. -/
def Obligations.DecoderTakesEightBytes : Prop :=
  ∀ b : List Byte,
    (b.length < 8 → decode b = .error .frameIncomplete) ∧
    (8 ≤ b.length → ∃ r, decode b = .ok (r, b.drop 8) ∧ encodeBytes r = b.take 8)

/-- The table's 64-bit word has `func` in bits 55 to 48, `P1` in 47 to 32 and `P2` in 31 to 16. -/
def Obligations.TableWordFields : Prop :=
  ∀ w : Nat, w < 2 ^ 64 → ∃ i, decodeTableWord 64 w = some i ∧ i.func.toNat = w / 2 ^ 48 % 256 ∧
    (w / 2 ^ 48 % 256 = 3 → i = .read (BitVec.ofNat 16 (w / 2 ^ 32)) (BitVec.ofNat 16 (w / 2 ^ 16))) ∧
    (w / 2 ^ 48 % 256 = 6 → i = .write (BitVec.ofNat 16 (w / 2 ^ 32)) (BitVec.ofNat 16 (w / 2 ^ 16)))

/-- A few of the spec's own request bytes decode to what they stand for (95_test_vectors.md, V-ENC-1). -/
def Obligations.SpecRequestBytesDecode : Prop :=
  decode [0x01, 0x03, 0x00, 0x00, 0x00, 0x02, 0xC4, 0x0B] = .ok (⟨0x01, .read 0x0000 0x0002, 0, 0, 0x0BC4⟩, []) ∧
    decode [0x01, 0x06, 0x00, 0x02, 0xAB, 0xCD, 0x96, 0xAF] = .ok (⟨0x01, .write 0x0002 0xABCD, 0, 0, 0xAF96⟩, []) ∧
    decode [0x01, 0xFF, 0x01, 0x02, 0x03, 0x04, 0xB4, 0xD1] =
      .ok (⟨0x01, .unsupportedFF, 0x0102, 0x0304, 0xD1B4⟩, [])

/-! ### The CRC engine -/

/-- The bits after one round: all shifted down by one, the dropped bit entering 15 and inverting 13 and 0. -/
def Obligations.CrcRoundBitByBit : Prop :=
  ∀ (c : Word) (j : Nat), j < 16 →
    (crcBit c).getLsbD j =
      if j = 15 then c.getLsbD 0
      else if j = 13 ∨ j = 0 then (c.getLsbD (j + 1) ^^ c.getLsbD 0)
      else c.getLsbD (j + 1)

/-- The table-driven form of a byte's eight rounds. -/
def Obligations.CrcByteByTable : Prop :=
  ∀ (c : Word) (d : Byte), crcByte c d = (c >>> 8) ^^^ crcRounds 8 ((lo8 c ^^^ d).setWidth 16)

/-- R86: the validator reads exactly `length + 2` bytes, compares the CRC of the first `length` with the two after
them, low byte first, and has no meaning on fewer. -/
def Obligations.CrcVerifyComparesTheTwoBytesAfter : Prop :=
  (∀ (b : List Byte) (l h : Byte) (rest : List Byte),
      crcVerify (b ++ l :: h :: rest) b.length = some (decide ((crc16 b).toNat = h.toNat * 256 + l.toNat))) ∧
    ∀ (b : List Byte) (n : Nat), b.length < n + 2 → crcVerify b n = none

/-- R89: a message followed by its own CRC, low byte first, verifies. -/
def Obligations.CrcRoundTrip : Prop :=
  ∀ b : List Byte, crcVerify (b ++ littleEndian (crc16 b)) b.length = some true

/-- R90: inverting any single bit of a message changes its CRC, so that a request with one corrupted bit in bytes 0 to
5 never passes the check against the original CRC bytes. -/
def Obligations.CrcDetectsEverySingleBitFlip : Prop :=
  (∀ (b : List Byte) (j n : Nat), j < b.length → n < 8 → crc16 (flipBit b j n) ≠ crc16 b) ∧
    ∀ (f g : Frame) (j n : Nat), j < 6 → n < 8 → crcVerify (frameBytes f) 6 = some true →
      frameBytes g = flipBit (frameBytes f) j n → crcVerify (frameBytes g) 6 = some false

/-- The residue: the CRC of a message followed by its own CRC is zero. -/
def Obligations.CrcResidueIsZero : Prop :=
  ∀ b : List Byte, crc16 (b ++ littleEndian (crc16 b)) = 0

/-- Published check values (40_crc_engine.md, the table of its section 5). -/
def Obligations.CrcCheckValues : Prop :=
  crc16 [0x31, 0x32, 0x33, 0x34, 0x35, 0x36, 0x37, 0x38, 0x39] = 0x4B37 ∧
    crc16 [0x01, 0x03, 0x00, 0x00, 0x00, 0x02] = 0x0BC4 ∧ crc16 [0x11, 0x03, 0x00, 0x6B, 0x00, 0x03] = 0x8776

/-! ### The register store -/

/-- R94: a register is read if its address exists; any other address, however large, is `OutOfRange`. -/
def Obligations.StoreReadIsBoundsChecked : Prop :=
  ∀ (s : State) (a : Nat), Memory.wf s →
    (a < s.par.registerCount → ∃ v, s.x[a]? = some v ∧ storeRead s a = some v) ∧
    (s.par.registerCount ≤ a → storeRead s a = none) ∧
    memRead s a 1 = (storeRead s a).map fun v => [v]

/-- R95: a write in range changes exactly one register, to the whole value, and nothing else; out of range it changes
nothing. -/
def Obligations.StoreWriteChangesOneRegister : Prop :=
  ∀ (s : State) (a : Nat) (v : Word), Memory.wf s →
    (a < s.par.registerCount → ∃ t, storeWrite s a v = some t ∧ t = { s with x := t.x } ∧ Memory.wf t ∧
      t.x[a]? = some v ∧ ∀ b, b ≠ a → t.x[b]? = s.x[b]?) ∧
    (s.par.registerCount ≤ a → storeWrite s a v = none) ∧
    memWrite s a v = storeWrite s a v

/-- R96: a block read answers all `n` registers in order, or `OutOfRange` if any address does not exist; for `n = 0`
no address is computed. A range the dispatcher accepts never fails. -/
def Obligations.BlockReadIsAllOrNothing : Prop :=
  ∀ (s : State) (a n : Nat), Memory.wf s →
    ((∀ j, j < n → a + j < s.par.registerCount) → ∃ vs, memRead s a n = some vs ∧ vs.length = n ∧
      ∀ j, j < n → vs[j]? = s.x[a + j]?) ∧
    ((∃ j, j < n ∧ s.par.registerCount ≤ a + j) → memRead s a n = none) ∧
    memRead s a 0 = some [] ∧ (a + n ≤ s.par.registerCount → (memRead s a n).isSome)

/-! ### The requests -/

/-- An accepted Read builds its response from the registers, big-endian, with the byte count, the slave address and its
own CRC, low byte first; everything else but the read's own working state is unchanged. The counters `i` and `k` after it
are the model's choice (log 16). -/
def Obligations.ReadAcceptedBuildsResponse : Prop :=
  ∀ (s : State) (start count : Word), Memory.wf s → start.toNat + count.toNat ≤ s.par.registerCount →
    count.toNat ≤ s.par.maxReadCount →
      ∃ vals : List Word, vals.length = count.toNat ∧ (∀ j, j < count.toNat → vals[j]? = s.x[start.toNat + j]?) ∧
        let body := s.cfg.slaveAddr :: 0x03 :: BitVec.ofNat 8 (2 * count.toNat) ::
          vals.flatMap fun v => [hi8 v, lo8 v]
        exec (.read start count) s = .next { s with
          resp := body ++ [lo8 (crc16 body), hi8 (crc16 body)]
          crc := crc16 body, i := count.toNat, k := 0, out := .readOk, outInfo := 0, pc := .emit }

/-- R113: a Read is rejected if the unwrapped sum exceeds the store or the count the cap; it then reads nothing, builds
nothing, and reports both causes; otherwise it is accepted. -/
def Obligations.ReadAcceptanceTest : Prop :=
  ∀ (s : State) (start count : Word),
    (s.par.registerCount < start.toNat + count.toNat ∨ s.par.maxReadCount < count.toNat →
      ∃ info : BitVec 2,
        info.getLsbD 0 = decide (s.par.registerCount < start.toNat + count.toNat) ∧
        info.getLsbD 1 = decide (s.par.maxReadCount < count.toNat) ∧
        exec (.read start count) s = .next { s with out := .outOfRangeRead, outInfo := info, pc := .drain }) ∧
    (Memory.wf s → start.toNat + count.toNat ≤ s.par.registerCount → count.toNat ≤ s.par.maxReadCount →
      ∃ t, exec (.read start count) s = .next t ∧ t.out = .readOk ∧ t.outInfo = 0 ∧ t.pc = .emit ∧ t.x = s.x)

/-- An accepted Read's response has `5 + 2 * count` bytes, fits the buffer, carries the byte count without truncation,
and passes the master's own CRC check. -/
def Obligations.ReadResponseVerifies : Prop :=
  ∀ (s t : State) (start count : Word), s.par.wf → exec (.read start count) s = .next t → t.out = .readOk →
      t.resp.length = 5 + 2 * count.toNat ∧ t.resp.length ≤ s.par.respCap ∧
        (∃ b, t.resp[2]? = some b ∧ b.toNat = 2 * count.toNat) ∧
        crcVerify t.resp (3 + 2 * count.toNat) = some true

/-- R115: a Write takes its address and value from the two parameters, stores the whole value in that one register if it
exists, and echoes the eight request bytes either way; the event says which. That the byte counter is reset here is the
model's choice (log 16). -/
def Obligations.WriteStoresIfInRangeAndEchoes : Prop :=
  ∀ s : State, Memory.wf s →
    (s.req.func = 0x06 → requested s = .write (rqP1 s) (rqP2 s)) ∧
    ∀ reg value : Word,
      (reg.toNat < s.par.registerCount → ∃ x' : List Word, x'.length = s.x.length ∧ x'[reg.toNat]? = some value ∧
        (∀ b, b ≠ reg.toNat → x'[b]? = s.x[b]?) ∧
        exec (.write reg value) s = .next { s with
          x := x', resp := frameBytes s.req, k := 0, out := .writeOk, outInfo := 0, pc := .emit }) ∧
      (s.par.registerCount ≤ reg.toNat → exec (.write reg value) s = .next { s with
        resp := frameBytes s.req, k := 0, out := .writeOutOfRangeAck, outInfo := 0, pc := .emit })

/-- R116: a Write out of range changes no register and is echoed all the same. That the byte counter is reset
here is the model's choice (log 16). -/
def Obligations.WriteOutOfRangeOnlyEchoes : Prop :=
  ∀ (s : State) (reg value : Word), s.par.registerCount ≤ reg.toNat →
    exec (.write reg value) s = .next { s with
      resp := frameBytes s.req, k := 0, out := .writeOutOfRangeAck, outInfo := 0, pc := .emit }

/-- R118: every function code but 0x03 and 0x06 raises its event and does nothing else. -/
def Obligations.UnsupportedCodesDoNothing : Prop :=
  ∀ (i : Instr) (s : State), i.func ≠ 0x03 → i.func ≠ 0x06 →
    exec i s = .next { s with out := .unsupportedFunction, outInfo := 0, pc := .drain }

/-- What no request can touch, and that only a Write in range changes a register, the one it names. -/
def Obligations.RequestFrame : Prop :=
  ∀ (i : Instr) (s t : State), exec i s = .next t →
    t.par = s.par ∧ t.cfg = s.cfg ∧ t.shadow = s.shadow ∧ t.req = s.req ∧ t.outcome = s.outcome ∧
      t.oorInfo = s.oorInfo ∧ t.dout = s.dout ∧ t.done = s.done ∧ t.rxq = s.rxq ∧ t.txq = s.txq ∧ t.rnd = s.rnd ∧
      t.env = s.env ∧
      ∀ a, t.x[a]? = s.x[a]? ∨
        ∃ reg value, i = .write reg value ∧ a = reg.toNat ∧ a < s.par.registerCount ∧ t.x[a]? = some value

/-! ### Steps -/

/-- A step runs the decoded request: where the request buffer holds a well-formed request and the phase is the one in
which it has its effect, a step is `exec` of it on the state the cycle finds (arriving bytes in the queue, inputs
taken), followed by the setter strobes of the cycle. The order within a cycle is the model's choice (log 3). -/
def Obligations.StepRunsDecodedRequest : Prop :=
  ∀ (s : State) (r : Request), r.wf = true → decode (frameBytes s.req) = .ok (r, []) → s.pc = executionPhase s.req.func →
    (s.env = [] → step s = exec r.instr s) ∧
    ((portsNow s).rst = false → hasRoom s (portsNow s).rx = true →
      step s = thenDo (exec r.instr (seen s)) fun t => .next (applyStrobes (portsNow s) t))

/-- The word `withFetchWord` places is the one the next step runs (the model's placing of a request, log 15). -/
def Obligations.FetchWordRunsNext : Prop :=
  ∀ (s : State) (nbits w : Nat) (i : Instr), decodeTableWord nbits w = some i → s.env = [] →
    step (s.withFetchWord nbits w) = exec i (s.withFetchWord nbits w)

/-- R146: every transition of the phase register, with the event it raises; where the table raises none, the event on
the way stays. Its rows are R146's; that `CONSUME` and `EMIT` stay in their phase, one byte a step, is the model's choice
(log 1, log 12), and so are the byte counter `k` that counts them (log 16) and that a sample sees the bytes that arrive in
its own cycle (log 3). -/
def Obligations.PhaseTransitionsFollowTheTable : Prop :=
  ∀ s t : State, Inv s → step s = .next t →
    ((portsNow s).rst = true → t.pc = .idle) ∧
    ((portsNow s).rst = false →
      (s.pc = .idle → t.pc = (if (portsNow s).tick then .refresh else .idle) ∧ t.out = s.out) ∧
      (s.pc = .refresh → t.pc = .gate ∧ t.out = s.out) ∧
      (s.pc = .gate → 8 ≤ (seen s).rxq.length → t.pc = .consume ∧ t.out = s.out) ∧
      (s.pc = .gate → (seen s).rxq.length < 8 → t.pc = .output ∧ t.out = .frameIncomplete) ∧
      (s.pc = .consume → t.pc = (if t.k = 8 then .checkAddr else .consume) ∧ t.k = s.k + 1 ∧ t.out = s.out) ∧
      (s.pc = .checkAddr → s.req.addr = s.cfg.slaveAddr → t.pc = .checkCrc ∧ t.out = s.out) ∧
      (s.pc = .checkAddr → s.req.addr ≠ s.cfg.slaveAddr → t.pc = .drain ∧ t.out = .addressMismatch) ∧
      (s.pc = .checkCrc → crcVerify (frameBytes s.req) 6 = some true → t.pc = .dispatch ∧ t.out = s.out) ∧
      (s.pc = .checkCrc → crcVerify (frameBytes s.req) 6 = some false → t.pc = .drain ∧ t.out = .crcMismatch) ∧
      (s.pc = .dispatch → s.req.func = 0x03 → t.pc = .execRead ∧ t.out = s.out) ∧
      (s.pc = .dispatch → s.req.func = 0x06 → t.pc = .execWrite ∧ t.out = s.out) ∧
      (s.pc = .dispatch → s.req.func ≠ 0x03 → s.req.func ≠ 0x06 → t.pc = .drain ∧ t.out = .unsupportedFunction) ∧
      (s.pc = .execRead → (rqP1 s).toNat + (rqP2 s).toNat ≤ s.par.registerCount →
        (rqP2 s).toNat ≤ s.par.maxReadCount → t.pc = .emit ∧ t.out = .readOk) ∧
      (s.pc = .execRead → s.par.registerCount < (rqP1 s).toNat + (rqP2 s).toNat ∨
        s.par.maxReadCount < (rqP2 s).toNat → t.pc = .drain ∧ t.out = .outOfRangeRead) ∧
      (s.pc = .execWrite → (rqP1 s).toNat < s.par.registerCount → t.pc = .emit ∧ t.out = .writeOk) ∧
      (s.pc = .execWrite → s.par.registerCount ≤ (rqP1 s).toNat → t.pc = .emit ∧ t.out = .writeOutOfRangeAck) ∧
      (s.pc = .emit → t.pc = (if t.k = t.resp.length then .drain else .emit) ∧ t.k = s.k + 1 ∧ t.out = s.out) ∧
      (s.pc = .drain → (seen s).rxq = [] → t.pc = .output ∧ t.out = s.out) ∧
      (s.pc = .drain → (seen s).rxq ≠ [] → t.pc = .drain ∧ t.rxq = (seen s).rxq.tail ∧ t.out = s.out) ∧
      (s.pc = .output → t.pc = .idle ∧ t.out = s.out))

/-- R104: the eight steps of `CONSUME` move the eight oldest bytes into the request buffer, whatever they are, and
change nothing else but the byte counter `k`, while no other input comes. One byte a step is the model's choice (log 1),
and so is the 8 that `k` holds afterwards (log 16). -/
def Obligations.ConsumeTakesTheEightOldestBytes : Prop :=
  ∀ (s : State) (f : Frame) (rest : List Byte), s.pc = .consume → s.k = 0 → s.env = [] →
    s.rxq = frameBytes f ++ rest →
      run 8 s = .next { s with req := f, rxq := rest, k := 8, pc := .checkAddr }

/-- The steps of `EMIT` hand the whole response to the sink, in order, and change nothing else but the byte counter `k`.
One byte a step is the model's choice (log 1, log 12), and so is the response's length that `k` holds afterwards (log 16). -/
def Obligations.EmitHandsOverTheWholeResponse : Prop :=
  ∀ s : State, s.pc = .emit → s.k = 0 → s.env = [] → s.resp ≠ [] →
    run s.resp.length s = .next { s with
      txq := s.txq ++ s.resp, k := s.resp.length, pc := .drain }

/-- With no byte arriving, the drain removes every buffered byte, one a step, and ends at the first empty sample. -/
def Obligations.DrainEmptiesTheQueue : Prop :=
  ∀ s : State, s.pc = .drain → s.env = [] →
    run (s.rxq.length + 1) s = .next { s with rxq := [], pc := .output }

/-- `REFRESH` commits the pending configuration, clears the response, keeps the newly bound register and gives every
other register one draw, in ascending order: exactly `REGISTER_COUNT - 1` draws. All in one step is the model's choice
(log 2); the draws' values are free (log 8). -/
def Obligations.RefreshDrawsInAscendingOrder : Prop :=
  ∀ s : State, s.pc = .refresh → s.env = [] → Memory.wf s → s.shadow.ledIndex < s.par.registerCount →
    ∃ x' : List Word, x'.length = s.par.registerCount ∧ (∀ j, j < s.par.registerCount → x'[j]? = dispatched s j) ∧
      step s = .next { s with
        cfg := s.shadow, resp := [], x := x', rnd := afterDraws s.rnd (s.par.registerCount - 1), pc := .gate }

/-- If the source keeps its contract, every register but the bound one lies in `[1, 10000)` after `REFRESH`. -/
def Obligations.RefreshedRegistersLieInRange : Prop :=
  ∀ s t : State, s.pc = .refresh → Memory.wf s → s.shadow.ledIndex < s.par.registerCount →
    (∀ d ∈ s.rnd.queue, 1 ≤ d.toNat ∧ d.toNat < 10000) → (portsNow s).rst = false → step s = .next t →
      ∀ (j : Nat) (v : Word), t.x[j]? = some v → j ≠ t.cfg.ledIndex → 1 ≤ v.toNat ∧ v.toNat < 10000

/-- `OUTPUT` projects the bound register (active exactly for the value 1), latches the tick's event and its
information, and ends the tick. -/
def Obligations.OutputProjectsAndLatches : Prop :=
  ∀ (s : State) (v : Word), s.pc = .output → s.env = [] → s.x[s.cfg.ledIndex]? = some v →
    step s = .next { s with
      dout := decide (v.toNat = 1), outcome := s.out, oorInfo := s.outInfo, done := true, pc := .idle }

/-- R177: `rst` gives the reset values from any phase and overrides `tick` and the setters; the environment stays. That
bytes arriving in a reset cycle enter the queue is the model's choice (log 3). -/
def Obligations.ResetOverridesEverything : Prop :=
  ∀ s : State, (portsNow s).rst = true → hasRoom s (portsNow s).rx = true → ∃ t, step s = .next t ∧
    t.par = s.par ∧ t.x = List.replicate s.par.registerCount s.par.regReset ∧ t.pc = .idle ∧
    t.cfg = ⟨s.par.slaveAddrReset, s.par.ledIndexReset⟩ ∧ t.shadow = t.cfg ∧ t.outcome = .none ∧ t.oorInfo = 0 ∧
    t.dout = false ∧ t.rxq = s.rxq ++ (portsNow s).rx ∧ t.txq = s.txq ∧ t.rnd = s.rnd ∧ t.env = s.env.tail

/-- The values the spec gives the state after reset, for every instance. -/
def Obligations.ResetValues : Prop :=
  ∀ p : Params, (State.resetWith p).par = p ∧ (State.resetWith p).x.length = p.registerCount ∧
    (∀ v ∈ (State.resetWith p).x, v = p.regReset) ∧ (State.resetWith p).pc = .idle ∧
    (State.resetWith p).cfg = ⟨p.slaveAddrReset, p.ledIndexReset⟩ ∧
    (State.resetWith p).shadow = ⟨p.slaveAddrReset, p.ledIndexReset⟩ ∧
    eventCode (State.resetWith p).outcome = 0 ∧ (State.resetWith p).oorInfo = 0 ∧ (State.resetWith p).dout = false

/-- The active configuration changes only in `REFRESH`, to the pending copies as they were before the cycle; a strobe
writes the pending copy only, in whatever phase it comes; an index that does not exist is ignored. That a strobe in the
`REFRESH` cycle itself comes too late for that tick is the model's choice (log 4). -/
def Obligations.SettersActAtTheNextTick : Prop :=
  ∀ s t : State, step s = .next t → (portsNow s).rst = false →
    t.cfg = (if s.pc = .refresh then s.shadow else s.cfg) ∧
    t.shadow.slaveAddr = (portsNow s).cfgAddr.getD s.shadow.slaveAddr ∧
    (∀ n : Word, (portsNow s).cfgLed = some n → n.toNat < s.par.registerCount → t.shadow.ledIndex = n.toNat) ∧
    (∀ n : Word, (portsNow s).cfgLed = some n → s.par.registerCount ≤ n.toNat →
      t.shadow.ledIndex = s.shadow.ledIndex) ∧
    ((portsNow s).cfgLed = none → t.shadow.ledIndex = s.shadow.ledIndex)

/-- A `tick` request while a tick runs is ignored, not queued. -/
def Obligations.TickIsIgnoredWhileBusy : Prop :=
  ∀ (s : State) (p : PortIn) (later : List PortIn), s.pc ≠ .idle →
    step { s with env := { p with tick := true } :: later } = step { s with env := { p with tick := false } :: later }

/-- In `IDLE` with no `tick` nothing in the engine changes but the pending copies and the end of the `done` pulse (one
cycle long, the model's choice, log 17). -/
def Obligations.IdleChangesOnlyPendingCopies : Prop :=
  ∀ s t : State, s.pc = .idle → (portsNow s).rst = false → (portsNow s).tick = false → step s = .next t →
    t = { s with
      done := false, shadow := t.shadow, rxq := s.rxq ++ (portsNow s).rx, env := s.env.tail }

/-- Bytes leave the receive queue at its head only, at most one a step, in `CONSUME` and `DRAIN` only; what arrives
enters at the tail. One byte a step in `CONSUME` is the model's choice (log 1), and so is that the bytes of a cycle enter
before its phase acts (log 3). -/
def Obligations.ReceiveQueueLosesOnlyItsHead : Prop :=
  ∀ s t : State, step s = .next t →
    t.rxq = s.rxq ++ (portsNow s).rx ∨
      ((s.pc = .consume ∨ s.pc = .drain) ∧ (portsNow s).rst = false ∧ t.rxq = (s.rxq ++ (portsNow s).rx).tail)

/-- The sink is append-only: a step adds nothing, or in `EMIT` the response's next byte. One byte a
step is the model's choice (log 1, log 12). -/
def Obligations.SinkOnlyGrowsInEmit : Prop :=
  ∀ s t : State, step s = .next t →
    t.txq = s.txq ∨ (s.pc = .emit ∧ ∃ b, s.resp[s.k]? = some b ∧ t.txq = s.txq ++ [b])

/-- The status registers and the output latch change only in `OUTPUT` and at reset, and no step changes the instance's
constants. -/
def Obligations.StatusChangesOnlyInOutput : Prop :=
  ∀ s t : State, step s = .next t →
    t.par = s.par ∧
      (s.pc ≠ .output → (portsNow s).rst = false → t.outcome = s.outcome ∧ t.oorInfo = s.oorInfo ∧ t.dout = s.dout)

/-- The complete list of what writes a holding register: reset, the refresh (never the bound register), and a Write to
that address. -/
def Obligations.RegisterWritersAreComplete : Prop :=
  ∀ s t : State, Inv s → step s = .next t → (portsNow s).rst = false →
    t.x.length = s.x.length ∧
      ∀ j, t.x[j]? ≠ s.x[j]? →
        (s.pc = .refresh ∧ j ≠ t.cfg.ledIndex ∧ j < s.par.registerCount) ∨
          (s.pc = .execWrite ∧ s.req.func = 0x06 ∧ j = (rqP1 s).toNat ∧ j < s.par.registerCount ∧
            t.x[j]? = some (rqP2 s))

/-- What a telemetry register held before a tick is seen by nothing: two states that differ in such a register only
refresh to the same state. -/
def Obligations.TelemetryValuesDoNotLast : Prop :=
  ∀ (s : State) (y : List Word), s.pc = .refresh → Memory.wf s → y.length = s.x.length →
    s.shadow.ledIndex < s.par.registerCount → y[s.shadow.ledIndex]? = s.x[s.shadow.ledIndex]? →
      step { s with x := y } = step s

/-! ### Ticks and runs -/

/-- The invariant holds after reset, of every legal instance. -/
def Obligations.ResetMeetsInvariant : Prop :=
  Inv State.reset ∧ ∀ p : Params, p.wf → Inv (State.resetWith p)

/-- Every step keeps the invariant; the part about `done` is the model's own (log 17). -/
def Obligations.StepKeepsInvariant : Prop :=
  ∀ s t : State, Inv s → step s = .next t → Inv t

/-- No input halts the engine: in a state that meets the invariant a step answers a next state, or more bytes arrived
than the receive queue holds, where the model refuses (log 10). -/
def Obligations.NoInputHaltsTheEngine : Prop :=
  ∀ s : State, Inv s →
    (∃ t, step s = .next t) ∨ (hasRoom s (portsNow s).rx = false ∧ step s = .refused .rxOverflow)

/-- A running tick reaches `IDLE` in a bounded number of steps, if no further input comes; the bound counts the model's
steps (log 1). With bytes arriving it is `TickEndsIfFinitelyManyBytesArrive`. -/
def Obligations.RunningTickReachesIdle : Prop :=
  ∀ s : State, Inv s → s.env = [] → s.pc ≠ .idle →
    ∃ n t, n ≤ 16 + s.par.respCap + s.rxq.length ∧ run n s = .next t ∧ t.pc = .idle ∧ t.done = true

/-- The phases of a tick, run step by step from `IDLE` with one `tick` request and no other input, come to exactly the
whole-tick function, the model's reading of the pseudocode of R131 (log 1, log 21); the values the counters `k` and `i`
end with are the model's choice (log 16). -/
def Obligations.PhasesRefineTheWholeTick : Prop :=
  ∀ s : State, Inv s → s.pc = .idle → s.env = [] →
    ∃ n t, tick s = .next t ∧
      run n { s with env := [{ PortIn.idle with tick := true }] } = .next t

/-- R103: with fewer than eight bytes buffered a tick takes and drains nothing and answers nothing; it refreshes and
projects like any other. The tick is the atomic one, no byte arriving during it (log 21). -/
def Obligations.PartialFrameIsLeftAlone : Prop :=
  ∀ s : State, Inv s → s.pc = .idle → s.rxq.length < 8 →
    ∃ t, tick s = .next t ∧ t.outcome = .frameIncomplete ∧ t.rxq = s.rxq ∧ t.txq = s.txq ∧ t.req = s.req ∧
      (∀ j, j < s.par.registerCount → t.x[j]? = dispatched s j) ∧
      (t.dout = true ↔ dispatched s s.shadow.ledIndex = some 1)

/-- R105: a frame for another address yields no response byte, whatever follows its first byte; the registers are as
the refresh left them. The tick is the atomic one, no byte arriving during it (log 21). -/
def Obligations.ForeignFrameIsDroppedSilently : Prop :=
  ∀ (s : State) (f : Frame) (rest : List Byte), Inv s → s.pc = .idle → s.rxq = frameBytes f ++ rest →
    f.addr ≠ s.shadow.slaveAddr →
      ∃ t, tick s = .next t ∧ t.outcome = .addressMismatch ∧ t.txq = s.txq ∧ t.rxq = [] ∧ t.crc = s.crc ∧
        ∀ j, j < s.par.registerCount → t.x[j]? = dispatched s j

/-- R106: a frame for this address with a wrong CRC yields no response byte and has no effect on a register, whatever
its function code. The tick is the atomic one, no byte arriving during it (log 21). -/
def Obligations.CorruptFrameIsDroppedSilently : Prop :=
  ∀ (s : State) (f : Frame) (rest : List Byte), Inv s → s.pc = .idle → s.rxq = frameBytes f ++ rest →
    f.addr = s.shadow.slaveAddr → crcVerify (frameBytes f) 6 = some false →
      ∃ t, tick s = .next t ∧ t.outcome = .crcMismatch ∧ t.txq = s.txq ∧ t.rxq = [] ∧
        ∀ j, j < s.par.registerCount → t.x[j]? = dispatched s j

/-- A whole tick that finds a well-formed request with any other function code answers nothing and changes no register
beyond the refresh, whatever the two parameters hold. The tick is the atomic one, no byte arriving during it (log 21). -/
def Obligations.UnsupportedTickIsSilent : Prop :=
  ∀ (s : State) (r : Request) (rest : List Byte), Inv s → s.pc = .idle → r.wf = true →
    r.instr.func ≠ 0x03 → r.instr.func ≠ 0x06 → r.addr = s.shadow.slaveAddr → s.rxq = encodeBytes r ++ rest →
      ∃ t, tick s = .next t ∧ t.outcome = .unsupportedFunction ∧ t.oorInfo = 0 ∧ t.txq = s.txq ∧ t.rxq = [] ∧
        t.req.func = r.instr.func ∧ ∀ j, j < s.par.registerCount → t.x[j]? = dispatched s j

/-- A whole tick that finds a well-formed Read of existing registers answers it with what this tick's refresh left in
them, drops what was buffered behind it, and changes no other register. The tick is the atomic one, no byte arriving
during it (log 21); rejected Reads are in `EveryTickEndsWithTheFirstEventThatApplies`. -/
def Obligations.ReadTickAnswersFreshValues : Prop :=
  ∀ (s : State) (r : Request) (start count : Word) (rest : List Byte), Inv s → s.pc = .idle → r.wf = true →
    r.instr = .read start count → r.addr = s.shadow.slaveAddr → s.rxq = encodeBytes r ++ rest →
    start.toNat + count.toNat ≤ s.par.registerCount → count.toNat ≤ s.par.maxReadCount →
      ∃ (t : State) (vals : List Word), tick s = .next t ∧ vals.length = count.toNat ∧
        (∀ j, j < count.toNat → vals[j]? = dispatched s (start.toNat + j)) ∧
        (let body := r.addr :: 0x03 :: BitVec.ofNat 8 (2 * count.toNat) :: vals.flatMap fun v => [hi8 v, lo8 v]
         t.txq = s.txq ++ body ++ [lo8 (crc16 body), hi8 (crc16 body)]) ∧
        t.outcome = .readOk ∧ t.rxq = [] ∧ ∀ j, j < s.par.registerCount → t.x[j]? = dispatched s j

/-- A whole tick that finds a well-formed Write of an existing register echoes it, stores the value, and projects the
bound register after the store, so that a Write to it decides this same tick's output. The tick is the atomic one, no
byte arriving during it (log 21); Writes out of range are in `EveryTickEndsWithTheFirstEventThatApplies`. -/
def Obligations.WriteTickStoresEchoesAndProjects : Prop :=
  ∀ (s : State) (r : Request) (reg value : Word) (rest : List Byte), Inv s → s.pc = .idle → r.wf = true →
    r.instr = .write reg value → r.addr = s.shadow.slaveAddr → s.rxq = encodeBytes r ++ rest →
    reg.toNat < s.par.registerCount →
      ∃ t : State, tick s = .next t ∧ t.txq = s.txq ++ encodeBytes r ∧ t.outcome = .writeOk ∧ t.rxq = [] ∧
        (∀ j, j < s.par.registerCount → t.x[j]? = if j = reg.toNat then some value else dispatched s j) ∧
        (t.dout = true ↔ (if s.shadow.ledIndex = reg.toNat then some value else s.x[s.shadow.ledIndex]?) = some 1)

/-- Every atomic tick, one during which no byte arrives (log 21), ends idle with exactly one event, the first that applies
in the order gate, address, CRC, function code, range; and each event has the wire response and the effect on the receive
queue that its row of the event table gives. Of ticks in which bytes arrive it says nothing. -/
def Obligations.EveryTickEndsWithTheFirstEventThatApplies : Prop :=
  ∀ s : State, Inv s → s.pc = .idle → ∃ t, tick s = .next t ∧ t.pc = .idle ∧ t.done = true ∧
    (s.rxq.length < 8 → t.outcome = .frameIncomplete ∧ t.rxq = s.rxq ∧ t.txq = s.txq ∧ t.oorInfo = 0) ∧
    ∀ (f : Frame) (rest : List Byte), s.rxq = frameBytes f ++ rest →
      t.rxq = [] ∧ t.req = f ∧
      (let P1 := f.p1Hi.toNat * 256 + f.p1Lo.toNat
       let P2 := f.p2Hi.toNat * 256 + f.p2Lo.toNat
       if f.addr ≠ s.shadow.slaveAddr then t.outcome = .addressMismatch ∧ t.txq = s.txq ∧ t.oorInfo = 0
       else if crcVerify (frameBytes f) 6 ≠ some true then t.outcome = .crcMismatch ∧ t.txq = s.txq ∧ t.oorInfo = 0
       else if f.func = 0x03 then
         if P1 + P2 > s.par.registerCount ∨ P2 > s.par.maxReadCount then
           t.outcome = .outOfRangeRead ∧ t.txq = s.txq ∧
             t.oorInfo.toNat = (if P1 + P2 > s.par.registerCount then 1 else 0) +
               (if P2 > s.par.maxReadCount then 2 else 0)
         else t.outcome = .readOk ∧ t.txq.length = s.txq.length + 5 + 2 * P2 ∧ t.oorInfo = 0
       else if f.func = 0x06 then
         t.outcome = (if P1 < s.par.registerCount then .writeOk else .writeOutOfRangeAck) ∧
           t.txq = s.txq ++ frameBytes f ∧ t.oorInfo = 0
       else t.outcome = .unsupportedFunction ∧ t.txq = s.txq ∧ t.oorInfo = 0)

/-- The nine events have nine different codes, 0 to 8; 9 to 15 are never produced. -/
def Obligations.EventCodesAreDistinct : Prop :=
  (∀ e e' : Event, eventCode e = eventCode e' → e = e') ∧ ∀ e : Event, (eventCode e).toNat ≤ 8

/-! ### Bytes that arrive during a tick -/

/-- A running tick ends although bytes arrive during it, under the premise of R138: those still to come are finitely many,
`arriving s`, which the finite schedule builds in (the model's choice, log 23). Every byte costs at most one step more.
The other premises: no `rst`, and no overflow of the receive queue (log 10). The bound counts the model's steps (log 1). -/
def Obligations.TickEndsIfFinitelyManyBytesArrive : Prop :=
  ∀ s : State, Inv s → s.pc ≠ .idle → (∀ p ∈ s.env, p.rst = false) →
    (s.par.rxCap.all fun cap => s.rxq.length + arriving s ≤ cap) →
      ∃ n t, n ≤ 16 + s.par.respCap + s.rxq.length + arriving s ∧ run n s = .next t ∧ t.pc = .idle ∧ t.done = true

/-- The premise of R138 is needed: nothing else bounds the drain. As long as a byte arrives in every cycle, for any number
of cycles, the tick stays in `DRAIN` and the receive queue as long as it was. That a sample sees the byte that arrives in
its own cycle is the model's choice (log 3). -/
def Obligations.DrainLastsWhileBytesArrive : Prop :=
  ∀ (s : State) (b : Byte) (n : Nat), s.pc = .drain → s.par.rxCap = none →
    s.env = List.replicate n { PortIn.idle with rx := [b] } →
      ∃ t, run n s = .next t ∧ t.pc = .drain ∧ t.rxq.length = s.rxq.length ∧ t.env = []
end

