-- ==== Sys2Proof/Laws/Bytes.lean ====
section
/-! SUPPORT. Byte order and frames: splitting and joining words, cutting eight bytes from a stream. -/

namespace Sys2Proof.Machine

theorem hi8_toNat (v : Word) : (hi8 v).toNat = v.toNat / 256 := by
  have := v.isLt
  simp only [hi8, BitVec.extractLsb'_toNat, Nat.shiftRight_eq_div_pow]
  omega

theorem lo8_toNat (v : Word) : (lo8 v).toNat = v.toNat % 256 := by
  simp [lo8, BitVec.extractLsb'_toNat]

/-- R11: `(h, l)` is `h * 256 + l`. -/
theorem join_toNat (h l : Byte) : (join h l).toNat = h.toNat * 256 + l.toNat := by
  have := h.isLt
  have := l.isLt
  simp only [join, BitVec.toNat_ofNat]
  omega

@[simp] theorem join_hi8_lo8 (v : Word) : join (hi8 v) (lo8 v) = v := by
  apply BitVec.eq_of_toNat_eq
  rw [join_toNat, hi8_toNat, lo8_toNat]
  omega

@[simp] theorem hi8_join (h l : Byte) : hi8 (join h l) = h := by
  have := l.isLt
  apply BitVec.eq_of_toNat_eq
  rw [hi8_toNat, join_toNat]
  omega

@[simp] theorem lo8_join (h l : Byte) : lo8 (join h l) = l := by
  have := l.isLt
  apply BitVec.eq_of_toNat_eq
  rw [lo8_toNat, join_toNat]
  omega

@[simp] theorem frameBytes_length (f : Frame) : (frameBytes f).length = 8 := rfl

@[simp] theorem takeFrame_frameBytes (f : Frame) (rest : List Byte) : takeFrame (frameBytes f ++ rest) = some (f, rest) :=
  rfl

/-- A frame can be cut exactly from a stream of eight bytes or more; its bytes are the stream's first eight. -/
theorem takeFrame_eq_some {b : List Byte} {f : Frame} {rest : List Byte} :
    takeFrame b = some (f, rest) ↔ b = frameBytes f ++ rest := by
  constructor
  · intro h
    unfold takeFrame at h
    split at h
    · cases h; rfl
    · cases h
  · rintro rfl; rfl

theorem takeFrame_of_length {b : List Byte} (h : 8 ≤ b.length) : ∃ f rest, takeFrame b = some (f, rest) := by
  match b, h with
  | _ :: _ :: _ :: _ :: _ :: _ :: _ :: _ :: _, _ => exact ⟨_, _, rfl⟩

theorem takeFrame_eq_none {b : List Byte} : takeFrame b = none ↔ b.length < 8 := by
  constructor
  · intro h
    by_contra hn
    obtain ⟨f, rest, hf⟩ := takeFrame_of_length (Nat.le_of_not_lt hn)
    simp [hf] at h
  · intro h
    cases ht : takeFrame b with
    | none => rfl
    | some p => obtain ⟨f, rest⟩ := p; rw [takeFrame_eq_some.mp ht] at h; simp at h

/-- Taking the fields of a frame and laying them out again gives the frame. -/
@[simp] theorem frameOfFields_fieldsOfFrame (f : Frame) : frameOfFields (fieldsOfFrame f) = f := by
  simp [frameOfFields, fieldsOfFrame]

@[simp] theorem fieldsOfFrame_frameOfFields (f : Fields) : fieldsOfFrame (frameOfFields f) = f := by
  simp [frameOfFields, fieldsOfFrame]

end Sys2Proof.Machine
end

