-- ==== Sys2Proof/Laws/Crc.lean ====
section
/-! SUPPORT. The CRC engine: each round respects XOR, the accumulator is a fold, and the validator on a whole frame. -/

namespace Sys2Proof.Machine

theorem crcBit_eq (c : Word) : crcBit c = (c >>> 1) ^^^ (if c.getLsbD 0 then crcPoly else 0#16) := by
  unfold crcBit
  split <;> simp

/-- One round respects XOR (R85). -/
theorem crcBit_xor (a b : Word) : crcBit (a ^^^ b) = crcBit a ^^^ crcBit b := by
  simp only [crcBit_eq, BitVec.ushiftRight_xor_distrib, BitVec.getLsbD_xor]
  cases a.getLsbD 0 <;> cases b.getLsbD 0 <;>
    simp only [Bool.xor_false, Bool.xor_true, Bool.not_false, Bool.not_true, if_true, Bool.false_eq_true, if_false]
  all_goals
    ext j hj
    simp only [BitVec.getElem_xor, BitVec.getElem_zero]
    generalize (a >>> 1)[j] = p
    generalize (b >>> 1)[j] = q
    generalize crcPoly[j] = r
    cases p <;> cases q <;> cases r <;> rfl

theorem crcRounds_xor (n : Nat) (a b : Word) : crcRounds n (a ^^^ b) = crcRounds n a ^^^ crcRounds n b := by
  induction n generalizing a b with
  | zero => rfl
  | succ n ih => simp only [crcRounds, crcBit_xor, ih]

/-- A round with a clear low bit is a plain shift (R83). -/
theorem crcBit_of_even {c : Word} (h : c.getLsbD 0 = false) : crcBit c = c >>> 1 := by
  unfold crcBit
  rw [h]
  rfl

@[simp] theorem crc16_nil : crc16 [] = 0xFFFF := rfl

/-- The accumulator can be fed byte by byte (R84). -/
theorem crc16_append (p q : List Byte) : crc16 (p ++ q) = q.foldl crcByte (crc16 p) := by
  simp [crc16, List.foldl_append]

/-- The validator on the request buffer has its eight bytes: it compares the CRC of the first six with bytes 6 and 7,
low byte first (R88). -/
theorem crcVerify_frame (f : Frame) :
    crcVerify (frameBytes f) 6 = some (crc16 (frameBody f) == join f.crcHi f.crcLo) := rfl

end Sys2Proof.Machine
end

