-- ==== Sys2Proof/Laws/Opcodes.lean ====
section
/-! SUPPORT. The opcode map and its inverse, for every function code at once (spec/30_encoding.md R70). -/

namespace Sys2Proof

open Machine

@[simp] theorem operation_read (p1 p2 : Word) : operation (.read p1 p2) = (3#8, some (p1, p2)) := rfl

@[simp] theorem operation_write (p1 p2 : Word) : operation (.write p1 p2) = (6#8, some (p1, p2)) := rfl

@[simp] theorem interprets_read (p1 p2 : Word) : (Instr.read p1 p2).interprets = true := rfl

@[simp] theorem interprets_write (p1 p2 : Word) : (Instr.write p1 p2).interprets = true := rfl

@[simp] theorem func_read (p1 p2 : Word) : (Instr.read p1 p2).func = 3#8 := rfl

@[simp] theorem func_write (p1 p2 : Word) : (Instr.write p1 p2).func = 6#8 := rfl

@[simp] theorem opcode_read (p1 p2 : Word) : opcode 3#8 p1 p2 = .read p1 p2 := rfl

@[simp] theorem opcode_write (p1 p2 : Word) : opcode 6#8 p1 p2 = .write p1 p2 := rfl

/-- An operation is a Read, a Write, or interprets no operands. -/
theorem operation_cases (i : Instr) :
    (∃ a n, i = .read a n) ∨ (∃ a v, i = .write a v) ∨ i.interprets = false := by
  cases i <;> first | exact .inl ⟨_, _, rfl⟩ | exact .inr (.inl ⟨_, _, rfl⟩) | exact .inr (.inr rfl)

theorem operands_of_not_interprets {i : Instr} (h : i.interprets = false) : (operation i).2 = none := by
  simpa [Instr.interprets] using h

/-- The code of an operation that interprets no operands selects it, whatever the parameters. -/
theorem opcode_func {i : Instr} (h : i.interprets = false) (p1 p2 : Word) : opcode i.func p1 p2 = i := by
  cases i <;> first | rfl | cases h

/-- All the opcode map can give for a function code (R70): the selected operation has that code, and is a Read for
0x03, a Write for 0x06, one without operands for any other. -/
theorem opcode_spec (f : Byte) (p1 p2 : Word) :
    (opcode f p1 p2).func = f ∧
      ((f = 0x03 ∧ opcode f p1 p2 = .read p1 p2) ∨ (f = 0x06 ∧ opcode f p1 p2 = .write p1 p2) ∨
        (f ≠ 0x03 ∧ f ≠ 0x06 ∧ (opcode f p1 p2).interprets = false)) := by
  suffices h : ∀ n : Fin 256, (opcode (BitVec.ofFin n) p1 p2).func = BitVec.ofFin n ∧
      ((n = 3 ∧ opcode (BitVec.ofFin n) p1 p2 = .read p1 p2) ∨ (n = 6 ∧ opcode (BitVec.ofFin n) p1 p2 = .write p1 p2) ∨
        (n ≠ 3 ∧ n ≠ 6 ∧ (opcode (BitVec.ofFin n) p1 p2).interprets = false)) by
    obtain ⟨h1, h2⟩ := h f.toFin
    have e (c : Fin 256) : f.toFin = c ↔ f = BitVec.ofFin c :=
      ⟨fun h => by rw [← h], fun h => by rw [h]⟩
    rw [ne_eq, ne_eq, e, e] at h2
    exact ⟨h1, h2⟩
  intro n
  fin_cases n <;> refine ⟨rfl, ?_⟩ <;>
    first
    | exact .inr (.inr ⟨by decide, by decide, rfl⟩)
    | exact .inl ⟨rfl, rfl⟩
    | exact .inr (.inl ⟨rfl, rfl⟩)

/-- The operation of a frame is what the map gives for its second byte and its parameters (R64, R65). -/
theorem decodeInstr_eq (f : Frame) : decodeInstr f = opcode f.func (join f.p1Hi f.p1Lo) (join f.p2Hi f.p2Lo) := rfl

/-- A request with nothing unread is what its own fields stand for. -/
theorem requestOfFields_fieldsOf {r : Request} (h : r.nothingUnread = true) : requestOfFields (fieldsOf r) = r := by
  obtain ⟨a, i, u, v, c⟩ := r
  obtain ⟨p, q, rfl⟩ | ⟨p, q, rfl⟩ | hi := operation_cases i
  · obtain ⟨rfl, rfl⟩ : u = 0 ∧ v = 0 := by simpa [Request.nothingUnread] using h
    simp [requestOfFields, fieldsOf]
  · obtain ⟨rfl, rfl⟩ : u = 0 ∧ v = 0 := by simpa [Request.nothingUnread] using h
    simp [requestOfFields, fieldsOf]
  · simp [requestOfFields, fieldsOf, operands_of_not_interprets hi, opcode_func hi, hi]

/-- The fields of a request made from fields are those fields, and it leaves nothing unread that it interprets. -/
theorem fieldsOf_requestOfFields (f : Fields) :
    fieldsOf (requestOfFields f) = f ∧ (requestOfFields f).nothingUnread = true := by
  obtain ⟨a, fn, p, q, c⟩ := f
  obtain ⟨h1, ⟨rfl, -⟩ | ⟨rfl, -⟩ | ⟨-, -, h2⟩⟩ := opcode_spec fn p q
  · simp [requestOfFields, fieldsOf, Request.nothingUnread]
  · simp [requestOfFields, fieldsOf, Request.nothingUnread]
  · simp [requestOfFields, fieldsOf, Request.nothingUnread, operands_of_not_interprets h2, h1, h2]

end Sys2Proof
end

