-- ==== Sys2Proof/Laws/State.lean ====
section
/-! SUPPORT. What each named update of the state leaves in each field, so that no later proof unfolds an update. -/

namespace Sys2Proof.Machine

@[simp] theorem gotoPhase_par (p : Phase) (s : State) : (gotoPhase p s).par = s.par := rfl
@[simp] theorem gotoPhase_x (p : Phase) (s : State) : (gotoPhase p s).x = s.x := rfl
@[simp] theorem gotoPhase_pc (p : Phase) (s : State) : (gotoPhase p s).pc = p := rfl
@[simp] theorem gotoPhase_k (p : Phase) (s : State) : (gotoPhase p s).k = s.k := rfl
@[simp] theorem gotoPhase_i (p : Phase) (s : State) : (gotoPhase p s).i = s.i := rfl
@[simp] theorem gotoPhase_cfg (p : Phase) (s : State) : (gotoPhase p s).cfg = s.cfg := rfl
@[simp] theorem gotoPhase_shadow (p : Phase) (s : State) : (gotoPhase p s).shadow = s.shadow := rfl
@[simp] theorem gotoPhase_req (p : Phase) (s : State) : (gotoPhase p s).req = s.req := rfl
@[simp] theorem gotoPhase_resp (p : Phase) (s : State) : (gotoPhase p s).resp = s.resp := rfl
@[simp] theorem gotoPhase_crc (p : Phase) (s : State) : (gotoPhase p s).crc = s.crc := rfl
@[simp] theorem gotoPhase_out (p : Phase) (s : State) : (gotoPhase p s).out = s.out := rfl
@[simp] theorem gotoPhase_outInfo (p : Phase) (s : State) : (gotoPhase p s).outInfo = s.outInfo := rfl
@[simp] theorem gotoPhase_outcome (p : Phase) (s : State) : (gotoPhase p s).outcome = s.outcome := rfl
@[simp] theorem gotoPhase_oorInfo (p : Phase) (s : State) : (gotoPhase p s).oorInfo = s.oorInfo := rfl
@[simp] theorem gotoPhase_dout (p : Phase) (s : State) : (gotoPhase p s).dout = s.dout := rfl
@[simp] theorem gotoPhase_done (p : Phase) (s : State) : (gotoPhase p s).done = s.done := rfl
@[simp] theorem gotoPhase_rxq (p : Phase) (s : State) : (gotoPhase p s).rxq = s.rxq := rfl
@[simp] theorem gotoPhase_txq (p : Phase) (s : State) : (gotoPhase p s).txq = s.txq := rfl
@[simp] theorem gotoPhase_rnd (p : Phase) (s : State) : (gotoPhase p s).rnd = s.rnd := rfl
@[simp] theorem gotoPhase_env (p : Phase) (s : State) : (gotoPhase p s).env = s.env := rfl

@[simp] theorem sinkWrite_par (b : List Byte) (s : State) : (sinkWrite b s).par = s.par := rfl
@[simp] theorem sinkWrite_x (b : List Byte) (s : State) : (sinkWrite b s).x = s.x := rfl
@[simp] theorem sinkWrite_pc (b : List Byte) (s : State) : (sinkWrite b s).pc = s.pc := rfl
@[simp] theorem sinkWrite_k (b : List Byte) (s : State) : (sinkWrite b s).k = s.k := rfl
@[simp] theorem sinkWrite_i (b : List Byte) (s : State) : (sinkWrite b s).i = s.i := rfl
@[simp] theorem sinkWrite_cfg (b : List Byte) (s : State) : (sinkWrite b s).cfg = s.cfg := rfl
@[simp] theorem sinkWrite_shadow (b : List Byte) (s : State) : (sinkWrite b s).shadow = s.shadow := rfl
@[simp] theorem sinkWrite_req (b : List Byte) (s : State) : (sinkWrite b s).req = s.req := rfl
@[simp] theorem sinkWrite_resp (b : List Byte) (s : State) : (sinkWrite b s).resp = s.resp := rfl
@[simp] theorem sinkWrite_crc (b : List Byte) (s : State) : (sinkWrite b s).crc = s.crc := rfl
@[simp] theorem sinkWrite_out (b : List Byte) (s : State) : (sinkWrite b s).out = s.out := rfl
@[simp] theorem sinkWrite_outInfo (b : List Byte) (s : State) : (sinkWrite b s).outInfo = s.outInfo := rfl
@[simp] theorem sinkWrite_outcome (b : List Byte) (s : State) : (sinkWrite b s).outcome = s.outcome := rfl
@[simp] theorem sinkWrite_oorInfo (b : List Byte) (s : State) : (sinkWrite b s).oorInfo = s.oorInfo := rfl
@[simp] theorem sinkWrite_dout (b : List Byte) (s : State) : (sinkWrite b s).dout = s.dout := rfl
@[simp] theorem sinkWrite_done (b : List Byte) (s : State) : (sinkWrite b s).done = s.done := rfl
@[simp] theorem sinkWrite_rxq (b : List Byte) (s : State) : (sinkWrite b s).rxq = s.rxq := rfl
@[simp] theorem sinkWrite_txq (b : List Byte) (s : State) : (sinkWrite b s).txq = s.txq ++ b := rfl
@[simp] theorem sinkWrite_rnd (b : List Byte) (s : State) : (sinkWrite b s).rnd = s.rnd := rfl
@[simp] theorem sinkWrite_env (b : List Byte) (s : State) : (sinkWrite b s).env = s.env := rfl

@[simp] theorem setOutput_par (a : Bool) (s : State) : (setOutput a s).par = s.par := rfl
@[simp] theorem setOutput_x (a : Bool) (s : State) : (setOutput a s).x = s.x := rfl
@[simp] theorem setOutput_pc (a : Bool) (s : State) : (setOutput a s).pc = s.pc := rfl
@[simp] theorem setOutput_k (a : Bool) (s : State) : (setOutput a s).k = s.k := rfl
@[simp] theorem setOutput_i (a : Bool) (s : State) : (setOutput a s).i = s.i := rfl
@[simp] theorem setOutput_cfg (a : Bool) (s : State) : (setOutput a s).cfg = s.cfg := rfl
@[simp] theorem setOutput_shadow (a : Bool) (s : State) : (setOutput a s).shadow = s.shadow := rfl
@[simp] theorem setOutput_req (a : Bool) (s : State) : (setOutput a s).req = s.req := rfl
@[simp] theorem setOutput_resp (a : Bool) (s : State) : (setOutput a s).resp = s.resp := rfl
@[simp] theorem setOutput_crc (a : Bool) (s : State) : (setOutput a s).crc = s.crc := rfl
@[simp] theorem setOutput_out (a : Bool) (s : State) : (setOutput a s).out = s.out := rfl
@[simp] theorem setOutput_outInfo (a : Bool) (s : State) : (setOutput a s).outInfo = s.outInfo := rfl
@[simp] theorem setOutput_outcome (a : Bool) (s : State) : (setOutput a s).outcome = s.outcome := rfl
@[simp] theorem setOutput_oorInfo (a : Bool) (s : State) : (setOutput a s).oorInfo = s.oorInfo := rfl
@[simp] theorem setOutput_dout (a : Bool) (s : State) : (setOutput a s).dout = a := rfl
@[simp] theorem setOutput_done (a : Bool) (s : State) : (setOutput a s).done = s.done := rfl
@[simp] theorem setOutput_rxq (a : Bool) (s : State) : (setOutput a s).rxq = s.rxq := rfl
@[simp] theorem setOutput_txq (a : Bool) (s : State) : (setOutput a s).txq = s.txq := rfl
@[simp] theorem setOutput_rnd (a : Bool) (s : State) : (setOutput a s).rnd = s.rnd := rfl
@[simp] theorem setOutput_env (a : Bool) (s : State) : (setOutput a s).env = s.env := rfl

@[simp] theorem setSlaveAddr_par (v : Byte) (s : State) : (setSlaveAddr v s).par = s.par := rfl
@[simp] theorem setSlaveAddr_x (v : Byte) (s : State) : (setSlaveAddr v s).x = s.x := rfl
@[simp] theorem setSlaveAddr_pc (v : Byte) (s : State) : (setSlaveAddr v s).pc = s.pc := rfl
@[simp] theorem setSlaveAddr_k (v : Byte) (s : State) : (setSlaveAddr v s).k = s.k := rfl
@[simp] theorem setSlaveAddr_i (v : Byte) (s : State) : (setSlaveAddr v s).i = s.i := rfl
@[simp] theorem setSlaveAddr_cfg (v : Byte) (s : State) : (setSlaveAddr v s).cfg = s.cfg := rfl
@[simp] theorem setSlaveAddr_shadow (v : Byte) (s : State) : (setSlaveAddr v s).shadow = ⟨v, s.shadow.ledIndex⟩ := rfl
@[simp] theorem setSlaveAddr_req (v : Byte) (s : State) : (setSlaveAddr v s).req = s.req := rfl
@[simp] theorem setSlaveAddr_resp (v : Byte) (s : State) : (setSlaveAddr v s).resp = s.resp := rfl
@[simp] theorem setSlaveAddr_crc (v : Byte) (s : State) : (setSlaveAddr v s).crc = s.crc := rfl
@[simp] theorem setSlaveAddr_out (v : Byte) (s : State) : (setSlaveAddr v s).out = s.out := rfl
@[simp] theorem setSlaveAddr_outInfo (v : Byte) (s : State) : (setSlaveAddr v s).outInfo = s.outInfo := rfl
@[simp] theorem setSlaveAddr_outcome (v : Byte) (s : State) : (setSlaveAddr v s).outcome = s.outcome := rfl
@[simp] theorem setSlaveAddr_oorInfo (v : Byte) (s : State) : (setSlaveAddr v s).oorInfo = s.oorInfo := rfl
@[simp] theorem setSlaveAddr_dout (v : Byte) (s : State) : (setSlaveAddr v s).dout = s.dout := rfl
@[simp] theorem setSlaveAddr_done (v : Byte) (s : State) : (setSlaveAddr v s).done = s.done := rfl
@[simp] theorem setSlaveAddr_rxq (v : Byte) (s : State) : (setSlaveAddr v s).rxq = s.rxq := rfl
@[simp] theorem setSlaveAddr_txq (v : Byte) (s : State) : (setSlaveAddr v s).txq = s.txq := rfl
@[simp] theorem setSlaveAddr_rnd (v : Byte) (s : State) : (setSlaveAddr v s).rnd = s.rnd := rfl
@[simp] theorem setSlaveAddr_env (v : Byte) (s : State) : (setSlaveAddr v s).env = s.env := rfl

@[simp] theorem commit_par (s : State) : (commit s).par = s.par := rfl
@[simp] theorem commit_x (s : State) : (commit s).x = s.x := rfl
@[simp] theorem commit_pc (s : State) : (commit s).pc = s.pc := rfl
@[simp] theorem commit_k (s : State) : (commit s).k = s.k := rfl
@[simp] theorem commit_i (s : State) : (commit s).i = s.i := rfl
@[simp] theorem commit_cfg (s : State) : (commit s).cfg = s.shadow := rfl
@[simp] theorem commit_shadow (s : State) : (commit s).shadow = s.shadow := rfl
@[simp] theorem commit_req (s : State) : (commit s).req = s.req := rfl
@[simp] theorem commit_resp (s : State) : (commit s).resp = [] := rfl
@[simp] theorem commit_crc (s : State) : (commit s).crc = s.crc := rfl
@[simp] theorem commit_out (s : State) : (commit s).out = s.out := rfl
@[simp] theorem commit_outInfo (s : State) : (commit s).outInfo = s.outInfo := rfl
@[simp] theorem commit_outcome (s : State) : (commit s).outcome = s.outcome := rfl
@[simp] theorem commit_oorInfo (s : State) : (commit s).oorInfo = s.oorInfo := rfl
@[simp] theorem commit_dout (s : State) : (commit s).dout = s.dout := rfl
@[simp] theorem commit_done (s : State) : (commit s).done = s.done := rfl
@[simp] theorem commit_rxq (s : State) : (commit s).rxq = s.rxq := rfl
@[simp] theorem commit_txq (s : State) : (commit s).txq = s.txq := rfl
@[simp] theorem commit_rnd (s : State) : (commit s).rnd = s.rnd := rfl
@[simp] theorem commit_env (s : State) : (commit s).env = s.env := rfl

@[simp] theorem refresh_par (s : State) : (refresh s).par = s.par := rfl
@[simp] theorem refresh_x (s : State) : (refresh s).x = (refreshFrom s.cfg.ledIndex 0 s.rnd s.x).1 := rfl
@[simp] theorem refresh_pc (s : State) : (refresh s).pc = s.pc := rfl
@[simp] theorem refresh_k (s : State) : (refresh s).k = s.k := rfl
@[simp] theorem refresh_i (s : State) : (refresh s).i = s.i := rfl
@[simp] theorem refresh_cfg (s : State) : (refresh s).cfg = s.cfg := rfl
@[simp] theorem refresh_shadow (s : State) : (refresh s).shadow = s.shadow := rfl
@[simp] theorem refresh_req (s : State) : (refresh s).req = s.req := rfl
@[simp] theorem refresh_resp (s : State) : (refresh s).resp = s.resp := rfl
@[simp] theorem refresh_crc (s : State) : (refresh s).crc = s.crc := rfl
@[simp] theorem refresh_out (s : State) : (refresh s).out = s.out := rfl
@[simp] theorem refresh_outInfo (s : State) : (refresh s).outInfo = s.outInfo := rfl
@[simp] theorem refresh_outcome (s : State) : (refresh s).outcome = s.outcome := rfl
@[simp] theorem refresh_oorInfo (s : State) : (refresh s).oorInfo = s.oorInfo := rfl
@[simp] theorem refresh_dout (s : State) : (refresh s).dout = s.dout := rfl
@[simp] theorem refresh_done (s : State) : (refresh s).done = s.done := rfl
@[simp] theorem refresh_rxq (s : State) : (refresh s).rxq = s.rxq := rfl
@[simp] theorem refresh_txq (s : State) : (refresh s).txq = s.txq := rfl
@[simp] theorem refresh_rnd (s : State) : (refresh s).rnd = (refreshFrom s.cfg.ledIndex 0 s.rnd s.x).2 := rfl
@[simp] theorem refresh_env (s : State) : (refresh s).env = s.env := rfl

@[simp] theorem raiseEvent_par (e : Event) (n : BitVec 2) (p : Phase) (s : State) : (raiseEvent e n p s).par = s.par := rfl
@[simp] theorem raiseEvent_x (e : Event) (n : BitVec 2) (p : Phase) (s : State) : (raiseEvent e n p s).x = s.x := rfl
@[simp] theorem raiseEvent_pc (e : Event) (n : BitVec 2) (p : Phase) (s : State) : (raiseEvent e n p s).pc = p := rfl
@[simp] theorem raiseEvent_k (e : Event) (n : BitVec 2) (p : Phase) (s : State) : (raiseEvent e n p s).k = s.k := rfl
@[simp] theorem raiseEvent_i (e : Event) (n : BitVec 2) (p : Phase) (s : State) : (raiseEvent e n p s).i = s.i := rfl
@[simp] theorem raiseEvent_cfg (e : Event) (n : BitVec 2) (p : Phase) (s : State) : (raiseEvent e n p s).cfg = s.cfg := rfl
@[simp] theorem raiseEvent_shadow (e : Event) (n : BitVec 2) (p : Phase) (s : State) : (raiseEvent e n p s).shadow = s.shadow := rfl
@[simp] theorem raiseEvent_req (e : Event) (n : BitVec 2) (p : Phase) (s : State) : (raiseEvent e n p s).req = s.req := rfl
@[simp] theorem raiseEvent_resp (e : Event) (n : BitVec 2) (p : Phase) (s : State) : (raiseEvent e n p s).resp = s.resp := rfl
@[simp] theorem raiseEvent_crc (e : Event) (n : BitVec 2) (p : Phase) (s : State) : (raiseEvent e n p s).crc = s.crc := rfl
@[simp] theorem raiseEvent_out (e : Event) (n : BitVec 2) (p : Phase) (s : State) : (raiseEvent e n p s).out = e := rfl
@[simp] theorem raiseEvent_outInfo (e : Event) (n : BitVec 2) (p : Phase) (s : State) : (raiseEvent e n p s).outInfo = n := rfl
@[simp] theorem raiseEvent_outcome (e : Event) (n : BitVec 2) (p : Phase) (s : State) : (raiseEvent e n p s).outcome = s.outcome := rfl
@[simp] theorem raiseEvent_oorInfo (e : Event) (n : BitVec 2) (p : Phase) (s : State) : (raiseEvent e n p s).oorInfo = s.oorInfo := rfl
@[simp] theorem raiseEvent_dout (e : Event) (n : BitVec 2) (p : Phase) (s : State) : (raiseEvent e n p s).dout = s.dout := rfl
@[simp] theorem raiseEvent_done (e : Event) (n : BitVec 2) (p : Phase) (s : State) : (raiseEvent e n p s).done = s.done := rfl
@[simp] theorem raiseEvent_rxq (e : Event) (n : BitVec 2) (p : Phase) (s : State) : (raiseEvent e n p s).rxq = s.rxq := rfl
@[simp] theorem raiseEvent_txq (e : Event) (n : BitVec 2) (p : Phase) (s : State) : (raiseEvent e n p s).txq = s.txq := rfl
@[simp] theorem raiseEvent_rnd (e : Event) (n : BitVec 2) (p : Phase) (s : State) : (raiseEvent e n p s).rnd = s.rnd := rfl
@[simp] theorem raiseEvent_env (e : Event) (n : BitVec 2) (p : Phase) (s : State) : (raiseEvent e n p s).env = s.env := rfl

@[simp] theorem latchOutcome_par (s : State) : (latchOutcome s).par = s.par := rfl
@[simp] theorem latchOutcome_x (s : State) : (latchOutcome s).x = s.x := rfl
@[simp] theorem latchOutcome_pc (s : State) : (latchOutcome s).pc = .idle := rfl
@[simp] theorem latchOutcome_k (s : State) : (latchOutcome s).k = s.k := rfl
@[simp] theorem latchOutcome_i (s : State) : (latchOutcome s).i = s.i := rfl
@[simp] theorem latchOutcome_cfg (s : State) : (latchOutcome s).cfg = s.cfg := rfl
@[simp] theorem latchOutcome_shadow (s : State) : (latchOutcome s).shadow = s.shadow := rfl
@[simp] theorem latchOutcome_req (s : State) : (latchOutcome s).req = s.req := rfl
@[simp] theorem latchOutcome_resp (s : State) : (latchOutcome s).resp = s.resp := rfl
@[simp] theorem latchOutcome_crc (s : State) : (latchOutcome s).crc = s.crc := rfl
@[simp] theorem latchOutcome_out (s : State) : (latchOutcome s).out = s.out := rfl
@[simp] theorem latchOutcome_outInfo (s : State) : (latchOutcome s).outInfo = s.outInfo := rfl
@[simp] theorem latchOutcome_outcome (s : State) : (latchOutcome s).outcome = s.out := rfl
@[simp] theorem latchOutcome_oorInfo (s : State) : (latchOutcome s).oorInfo = s.outInfo := rfl
@[simp] theorem latchOutcome_dout (s : State) : (latchOutcome s).dout = s.dout := rfl
@[simp] theorem latchOutcome_done (s : State) : (latchOutcome s).done = true := rfl
@[simp] theorem latchOutcome_rxq (s : State) : (latchOutcome s).rxq = s.rxq := rfl
@[simp] theorem latchOutcome_txq (s : State) : (latchOutcome s).txq = s.txq := rfl
@[simp] theorem latchOutcome_rnd (s : State) : (latchOutcome s).rnd = s.rnd := rfl
@[simp] theorem latchOutcome_env (s : State) : (latchOutcome s).env = s.env := rfl

@[simp] theorem encodeRead_par (a : Byte) (n : Nat) (vs : List Word) (s : State) : (encodeRead a n vs s).par = s.par := rfl
@[simp] theorem encodeRead_x (a : Byte) (n : Nat) (vs : List Word) (s : State) : (encodeRead a n vs s).x = s.x := rfl
@[simp] theorem encodeRead_pc (a : Byte) (n : Nat) (vs : List Word) (s : State) : (encodeRead a n vs s).pc = s.pc := rfl
@[simp] theorem encodeRead_k (a : Byte) (n : Nat) (vs : List Word) (s : State) : (encodeRead a n vs s).k = s.k := rfl
@[simp] theorem encodeRead_i (a : Byte) (n : Nat) (vs : List Word) (s : State) : (encodeRead a n vs s).i = s.i := rfl
@[simp] theorem encodeRead_cfg (a : Byte) (n : Nat) (vs : List Word) (s : State) : (encodeRead a n vs s).cfg = s.cfg := rfl
@[simp] theorem encodeRead_shadow (a : Byte) (n : Nat) (vs : List Word) (s : State) : (encodeRead a n vs s).shadow = s.shadow := rfl
@[simp] theorem encodeRead_req (a : Byte) (n : Nat) (vs : List Word) (s : State) : (encodeRead a n vs s).req = s.req := rfl
@[simp] theorem encodeRead_resp (a : Byte) (n : Nat) (vs : List Word) (s : State) : (encodeRead a n vs s).resp = readResponseBody a n vs ++ littleEndian (crc16 (readResponseBody a n vs)) := rfl
@[simp] theorem encodeRead_crc (a : Byte) (n : Nat) (vs : List Word) (s : State) : (encodeRead a n vs s).crc = crc16 (readResponseBody a n vs) := rfl
@[simp] theorem encodeRead_out (a : Byte) (n : Nat) (vs : List Word) (s : State) : (encodeRead a n vs s).out = s.out := rfl
@[simp] theorem encodeRead_outInfo (a : Byte) (n : Nat) (vs : List Word) (s : State) : (encodeRead a n vs s).outInfo = s.outInfo := rfl
@[simp] theorem encodeRead_outcome (a : Byte) (n : Nat) (vs : List Word) (s : State) : (encodeRead a n vs s).outcome = s.outcome := rfl
@[simp] theorem encodeRead_oorInfo (a : Byte) (n : Nat) (vs : List Word) (s : State) : (encodeRead a n vs s).oorInfo = s.oorInfo := rfl
@[simp] theorem encodeRead_dout (a : Byte) (n : Nat) (vs : List Word) (s : State) : (encodeRead a n vs s).dout = s.dout := rfl
@[simp] theorem encodeRead_done (a : Byte) (n : Nat) (vs : List Word) (s : State) : (encodeRead a n vs s).done = s.done := rfl
@[simp] theorem encodeRead_rxq (a : Byte) (n : Nat) (vs : List Word) (s : State) : (encodeRead a n vs s).rxq = s.rxq := rfl
@[simp] theorem encodeRead_txq (a : Byte) (n : Nat) (vs : List Word) (s : State) : (encodeRead a n vs s).txq = s.txq := rfl
@[simp] theorem encodeRead_rnd (a : Byte) (n : Nat) (vs : List Word) (s : State) : (encodeRead a n vs s).rnd = s.rnd := rfl
@[simp] theorem encodeRead_env (a : Byte) (n : Nat) (vs : List Word) (s : State) : (encodeRead a n vs s).env = s.env := rfl

@[simp] theorem encodeWrite_par (s : State) : (encodeWrite s).par = s.par := rfl
@[simp] theorem encodeWrite_x (s : State) : (encodeWrite s).x = s.x := rfl
@[simp] theorem encodeWrite_pc (s : State) : (encodeWrite s).pc = s.pc := rfl
@[simp] theorem encodeWrite_k (s : State) : (encodeWrite s).k = s.k := rfl
@[simp] theorem encodeWrite_i (s : State) : (encodeWrite s).i = s.i := rfl
@[simp] theorem encodeWrite_cfg (s : State) : (encodeWrite s).cfg = s.cfg := rfl
@[simp] theorem encodeWrite_shadow (s : State) : (encodeWrite s).shadow = s.shadow := rfl
@[simp] theorem encodeWrite_req (s : State) : (encodeWrite s).req = s.req := rfl
@[simp] theorem encodeWrite_resp (s : State) : (encodeWrite s).resp = frameBytes s.req := rfl
@[simp] theorem encodeWrite_crc (s : State) : (encodeWrite s).crc = s.crc := rfl
@[simp] theorem encodeWrite_out (s : State) : (encodeWrite s).out = s.out := rfl
@[simp] theorem encodeWrite_outInfo (s : State) : (encodeWrite s).outInfo = s.outInfo := rfl
@[simp] theorem encodeWrite_outcome (s : State) : (encodeWrite s).outcome = s.outcome := rfl
@[simp] theorem encodeWrite_oorInfo (s : State) : (encodeWrite s).oorInfo = s.oorInfo := rfl
@[simp] theorem encodeWrite_dout (s : State) : (encodeWrite s).dout = s.dout := rfl
@[simp] theorem encodeWrite_done (s : State) : (encodeWrite s).done = s.done := rfl
@[simp] theorem encodeWrite_rxq (s : State) : (encodeWrite s).rxq = s.rxq := rfl
@[simp] theorem encodeWrite_txq (s : State) : (encodeWrite s).txq = s.txq := rfl
@[simp] theorem encodeWrite_rnd (s : State) : (encodeWrite s).rnd = s.rnd := rfl
@[simp] theorem encodeWrite_env (s : State) : (encodeWrite s).env = s.env := rfl

@[simp] theorem arrive_par (b : List Byte) (s : State) : (arrive b s).par = s.par := rfl
@[simp] theorem arrive_x (b : List Byte) (s : State) : (arrive b s).x = s.x := rfl
@[simp] theorem arrive_pc (b : List Byte) (s : State) : (arrive b s).pc = s.pc := rfl
@[simp] theorem arrive_k (b : List Byte) (s : State) : (arrive b s).k = s.k := rfl
@[simp] theorem arrive_i (b : List Byte) (s : State) : (arrive b s).i = s.i := rfl
@[simp] theorem arrive_cfg (b : List Byte) (s : State) : (arrive b s).cfg = s.cfg := rfl
@[simp] theorem arrive_shadow (b : List Byte) (s : State) : (arrive b s).shadow = s.shadow := rfl
@[simp] theorem arrive_req (b : List Byte) (s : State) : (arrive b s).req = s.req := rfl
@[simp] theorem arrive_resp (b : List Byte) (s : State) : (arrive b s).resp = s.resp := rfl
@[simp] theorem arrive_crc (b : List Byte) (s : State) : (arrive b s).crc = s.crc := rfl
@[simp] theorem arrive_out (b : List Byte) (s : State) : (arrive b s).out = s.out := rfl
@[simp] theorem arrive_outInfo (b : List Byte) (s : State) : (arrive b s).outInfo = s.outInfo := rfl
@[simp] theorem arrive_outcome (b : List Byte) (s : State) : (arrive b s).outcome = s.outcome := rfl
@[simp] theorem arrive_oorInfo (b : List Byte) (s : State) : (arrive b s).oorInfo = s.oorInfo := rfl
@[simp] theorem arrive_dout (b : List Byte) (s : State) : (arrive b s).dout = s.dout := rfl
@[simp] theorem arrive_done (b : List Byte) (s : State) : (arrive b s).done = s.done := rfl
@[simp] theorem arrive_rxq (b : List Byte) (s : State) : (arrive b s).rxq = s.rxq ++ b := rfl
@[simp] theorem arrive_txq (b : List Byte) (s : State) : (arrive b s).txq = s.txq := rfl
@[simp] theorem arrive_rnd (b : List Byte) (s : State) : (arrive b s).rnd = s.rnd := rfl
@[simp] theorem arrive_env (b : List Byte) (s : State) : (arrive b s).env = s.env := rfl

@[simp] theorem takePorts_par (s : State) : (takePorts s).par = s.par := rfl
@[simp] theorem takePorts_x (s : State) : (takePorts s).x = s.x := rfl
@[simp] theorem takePorts_pc (s : State) : (takePorts s).pc = s.pc := rfl
@[simp] theorem takePorts_k (s : State) : (takePorts s).k = s.k := rfl
@[simp] theorem takePorts_i (s : State) : (takePorts s).i = s.i := rfl
@[simp] theorem takePorts_cfg (s : State) : (takePorts s).cfg = s.cfg := rfl
@[simp] theorem takePorts_shadow (s : State) : (takePorts s).shadow = s.shadow := rfl
@[simp] theorem takePorts_req (s : State) : (takePorts s).req = s.req := rfl
@[simp] theorem takePorts_resp (s : State) : (takePorts s).resp = s.resp := rfl
@[simp] theorem takePorts_crc (s : State) : (takePorts s).crc = s.crc := rfl
@[simp] theorem takePorts_out (s : State) : (takePorts s).out = s.out := rfl
@[simp] theorem takePorts_outInfo (s : State) : (takePorts s).outInfo = s.outInfo := rfl
@[simp] theorem takePorts_outcome (s : State) : (takePorts s).outcome = s.outcome := rfl
@[simp] theorem takePorts_oorInfo (s : State) : (takePorts s).oorInfo = s.oorInfo := rfl
@[simp] theorem takePorts_dout (s : State) : (takePorts s).dout = s.dout := rfl
@[simp] theorem takePorts_done (s : State) : (takePorts s).done = s.done := rfl
@[simp] theorem takePorts_rxq (s : State) : (takePorts s).rxq = s.rxq := rfl
@[simp] theorem takePorts_txq (s : State) : (takePorts s).txq = s.txq := rfl
@[simp] theorem takePorts_rnd (s : State) : (takePorts s).rnd = s.rnd := rfl
@[simp] theorem takePorts_env (s : State) : (takePorts s).env = s.env.tail := rfl

@[simp] theorem drainAll_par (s : State) : (drainAll s).par = s.par := rfl
@[simp] theorem drainAll_x (s : State) : (drainAll s).x = s.x := rfl
@[simp] theorem drainAll_pc (s : State) : (drainAll s).pc = s.pc := rfl
@[simp] theorem drainAll_k (s : State) : (drainAll s).k = s.k := rfl
@[simp] theorem drainAll_i (s : State) : (drainAll s).i = s.i := rfl
@[simp] theorem drainAll_cfg (s : State) : (drainAll s).cfg = s.cfg := rfl
@[simp] theorem drainAll_shadow (s : State) : (drainAll s).shadow = s.shadow := rfl
@[simp] theorem drainAll_req (s : State) : (drainAll s).req = s.req := rfl
@[simp] theorem drainAll_resp (s : State) : (drainAll s).resp = s.resp := rfl
@[simp] theorem drainAll_crc (s : State) : (drainAll s).crc = s.crc := rfl
@[simp] theorem drainAll_out (s : State) : (drainAll s).out = s.out := rfl
@[simp] theorem drainAll_outInfo (s : State) : (drainAll s).outInfo = s.outInfo := rfl
@[simp] theorem drainAll_outcome (s : State) : (drainAll s).outcome = s.outcome := rfl
@[simp] theorem drainAll_oorInfo (s : State) : (drainAll s).oorInfo = s.oorInfo := rfl
@[simp] theorem drainAll_dout (s : State) : (drainAll s).dout = s.dout := rfl
@[simp] theorem drainAll_done (s : State) : (drainAll s).done = s.done := rfl
@[simp] theorem drainAll_rxq (s : State) : (drainAll s).rxq = [] := rfl
@[simp] theorem drainAll_txq (s : State) : (drainAll s).txq = s.txq := rfl
@[simp] theorem drainAll_rnd (s : State) : (drainAll s).rnd = s.rnd := rfl
@[simp] theorem drainAll_env (s : State) : (drainAll s).env = s.env := rfl

@[simp] theorem resetEngine_par (s : State) : (resetEngine s).par = s.par := rfl
@[simp] theorem resetEngine_x (s : State) : (resetEngine s).x = List.replicate s.par.registerCount s.par.regReset := rfl
@[simp] theorem resetEngine_pc (s : State) : (resetEngine s).pc = .idle := rfl
@[simp] theorem resetEngine_k (s : State) : (resetEngine s).k = 0 := rfl
@[simp] theorem resetEngine_i (s : State) : (resetEngine s).i = 0 := rfl
@[simp] theorem resetEngine_cfg (s : State) : (resetEngine s).cfg = ⟨s.par.slaveAddrReset, s.par.ledIndexReset⟩ := rfl
@[simp] theorem resetEngine_shadow (s : State) : (resetEngine s).shadow = ⟨s.par.slaveAddrReset, s.par.ledIndexReset⟩ := rfl
@[simp] theorem resetEngine_req (s : State) : (resetEngine s).req = ⟨0, 0, 0, 0, 0, 0, 0, 0⟩ := rfl
@[simp] theorem resetEngine_resp (s : State) : (resetEngine s).resp = [] := rfl
@[simp] theorem resetEngine_crc (s : State) : (resetEngine s).crc = 0 := rfl
@[simp] theorem resetEngine_out (s : State) : (resetEngine s).out = .none := rfl
@[simp] theorem resetEngine_outInfo (s : State) : (resetEngine s).outInfo = 0 := rfl
@[simp] theorem resetEngine_outcome (s : State) : (resetEngine s).outcome = .none := rfl
@[simp] theorem resetEngine_oorInfo (s : State) : (resetEngine s).oorInfo = 0 := rfl
@[simp] theorem resetEngine_dout (s : State) : (resetEngine s).dout = false := rfl
@[simp] theorem resetEngine_done (s : State) : (resetEngine s).done = false := rfl
@[simp] theorem resetEngine_rxq (s : State) : (resetEngine s).rxq = s.rxq := rfl
@[simp] theorem resetEngine_txq (s : State) : (resetEngine s).txq = s.txq := rfl
@[simp] theorem resetEngine_rnd (s : State) : (resetEngine s).rnd = s.rnd := rfl
@[simp] theorem resetEngine_env (s : State) : (resetEngine s).env = s.env := rfl

end Sys2Proof.Machine
end

