-- ==== Sys2Proof/Laws/Ops.lean ====
section
/-! SUPPORT. For each shared operation, one lemma that says all it can do; and that every operation keeps the memory's
canonical form. -/

namespace Sys2Proof.Machine

/-! ### Results -/

theorem thenDo_eq_next {r : Result} {f : State → Result} {t : State} :
    thenDo r f = .next t ↔ ∃ s, r = .next s ∧ f s = .next t := by
  cases r <;> simp [thenDo]

@[simp] theorem thenDo_next (s : State) (f : State → Result) : thenDo (.next s) f = f s := rfl

/-! ### The register store -/

theorem storeRead_of_lt {s : State} {a : Nat} (h : a < s.par.registerCount) : storeRead s a = s.x[a]? := by
  simp [storeRead, rawRead, h]

theorem storeRead_of_ge {s : State} {a : Nat} (h : s.par.registerCount ≤ a) : storeRead s a = none := by
  simp [storeRead, Nat.not_lt.mpr h]

/-- All a bounds-checked write can do (R95). -/
theorem memWrite_cases (s : State) (a : Nat) (v : Word) :
    (a < s.par.registerCount ∧ memWrite s a v = some { s with x := s.x.set a v }) ∨
      (s.par.registerCount ≤ a ∧ memWrite s a v = none) := by
  by_cases h : a < s.par.registerCount
  · exact .inl ⟨h, by simp [memWrite, storeWrite, h]⟩
  · exact .inr ⟨Nat.le_of_not_lt h, by simp [memWrite, storeWrite, h]⟩

theorem memWrite_keeps_wf {s t : State} {a : Nat} {v : Word} (hs : Memory.wf s) (h : memWrite s a v = some t) :
    Memory.wf t := by
  obtain ⟨-, h'⟩ | ⟨-, h'⟩ := memWrite_cases s a v
  · rw [h'] at h; cases h; simpa [Memory.wf] using hs
  · rw [h'] at h; cases h

/-- A block read inside the store answers that stretch of the register file (R96). -/
theorem memRead_of_le {s : State} (hs : Memory.wf s) {a n : Nat} (h : a + n ≤ s.par.registerCount) :
    memRead s a n = some ((s.x.drop a).take n) := by
  induction n generalizing a with
  | zero => simp [memRead]
  | succ n ih =>
    have ha : a < s.x.length := by rw [hs]; omega
    rw [memRead, storeRead_of_lt (by omega), List.getElem?_eq_getElem ha, ih (by omega),
      List.drop_eq_getElem_cons ha, List.take_succ_cons]

/-- A block read that answers has read inside the store (R96). -/
theorem memRead_eq_some {s : State} {a n : Nat} {vs : List Word} (h : memRead s a n = some vs) :
    vs.length = n ∧ ∀ j, j < n → storeRead s (a + j) = vs[j]? := by
  induction n generalizing a vs with
  | zero => simp [memRead] at h; simp [h]
  | succ n ih =>
    unfold memRead at h
    split at h
    · rename_i v ws hv hws
      cases h
      obtain ⟨hl, hj⟩ := ih hws
      refine ⟨by simp [hl], fun j hjn => ?_⟩
      cases j with
      | zero => simpa using hv
      | succ j => simpa [Nat.add_assoc, Nat.add_comm 1 j] using hj j (by omega)
    · cases h

/-! ### The random source -/

/-- All a draw can do (R99): the next value, and the source one further. -/
theorem draw_eq (src : Source) : draw src = (upcoming src 0, afterDraws src 1) := by
  obtain ⟨q, n⟩ := src
  cases q <;> rfl

@[simp] theorem upcoming_afterDraws (src : Source) (m n : Nat) :
    upcoming (afterDraws src m) n = upcoming src (m + n) := by
  simp [upcoming, afterDraws, Nat.add_assoc]

@[simp] theorem afterDraws_zero (src : Source) : afterDraws src 0 = src := by simp [afterDraws]

@[simp] theorem afterDraws_afterDraws (src : Source) (m n : Nat) :
    afterDraws (afterDraws src m) n = afterDraws src (m + n) := by
  simp [afterDraws, Nat.add_assoc]

theorem refreshFrom_nil (r j : Nat) (src : Source) : refreshFrom r j src [] = ([], src) := rfl

theorem refreshFrom_reserved (j : Nat) (src : Source) (v : Word) (vs : List Word) :
    refreshFrom j j src (v :: vs) = (v :: (refreshFrom j (j + 1) src vs).1, (refreshFrom j (j + 1) src vs).2) := by
  simp [refreshFrom]

theorem refreshFrom_other {r j : Nat} (h : j ≠ r) (src : Source) (v : Word) (vs : List Word) :
    refreshFrom r j src (v :: vs) =
      (upcoming src 0 :: (refreshFrom r (j + 1) (afterDraws src 1) vs).1,
        (refreshFrom r (j + 1) (afterDraws src 1) vs).2) := by
  simp [refreshFrom, h, draw_eq]

@[simp] theorem refreshFrom_length (r j : Nat) (src : Source) (vs : List Word) :
    (refreshFrom r j src vs).1.length = vs.length := by
  induction vs generalizing j src with
  | nil => rfl
  | cons v vs ih =>
    by_cases h : j = r
    · subst h; simp [refreshFrom_reserved, ih]
    · simp [refreshFrom_other h, ih]

/-- Past the reserved index the refresh takes one draw per register. -/
theorem refreshFrom_past {r j : Nat} (h : r < j) (src : Source) (vs : List Word) :
    (refreshFrom r j src vs).2 = afterDraws src vs.length ∧
      ∀ n, n < vs.length → (refreshFrom r j src vs).1[n]? = some (upcoming src n) := by
  induction vs generalizing j src with
  | nil => simp [refreshFrom]
  | cons v vs ih =>
    obtain ⟨h1, h2⟩ := ih (j := j + 1) (by omega) (afterDraws src 1)
    rw [refreshFrom_other (by omega)]
    refine ⟨by simp [h1, Nat.add_comm 1], fun n hn => ?_⟩
    cases n with
    | zero => simp
    | succ n => simpa [Nat.add_comm 1] using h2 n (by simpa using hn)

/-- All a refresh loop can do (R98), from index `j` at or before the reserved one: it keeps the reserved register and
gives every other one its draw, in ascending order. -/
theorem refreshFrom_spec {r j : Nat} (src : Source) (vs : List Word) (hj : j ≤ r) (hr : r < j + vs.length) :
    (refreshFrom r j src vs).2 = afterDraws src (vs.length - 1) ∧
      ∀ n, n < vs.length → (refreshFrom r j src vs).1[n]? =
        if j + n = r then vs[n]? else some (upcoming src (if j + n < r then n else n - 1)) := by
  induction vs generalizing j src with
  | nil => simp at hr; omega
  | cons v vs ih =>
    by_cases h : j = r
    · subst h
      obtain ⟨h1, h2⟩ := refreshFrom_past (r := j) (j := j + 1) (by omega) src vs
      rw [refreshFrom_reserved]
      refine ⟨by simp [h1], fun n hn => ?_⟩
      cases n with
      | zero => simp
      | succ n => simpa using h2 n (by simpa using hn)
    · obtain ⟨h1, h2⟩ := ih (j := j + 1) (afterDraws src 1) (by omega) (by simp at hr; omega)
      have hv : 0 < vs.length := by simp at hr; omega
      rw [refreshFrom_other h]
      refine ⟨by simp [h1]; congr 1; omega, fun n hn => ?_⟩
      cases n with
      | zero => simp [h, show j < r by omega]
      | succ n =>
        have := h2 n (by simpa using hn)
        simp only [upcoming_afterDraws] at this
        simp only [List.getElem?_cons_succ, this, Nat.add_assoc, Nat.add_comm 1 n]
        split
        · rfl
        · congr 2; split <;> omega

theorem refresh_keeps_wf {s : State} (hs : Memory.wf s) : Memory.wf (refresh s) := by simpa [Memory.wf] using hs

theorem resetEngine_wf (s : State) : Memory.wf (resetEngine s) := by simp [Memory.wf]

theorem resetWith_wf (p : Params) : Memory.wf (State.resetWith p) := by simp [Memory.wf, State.resetWith]

theorem reset_wf : Memory.wf State.reset := resetWith_wf _

/-! ### The byte queues -/

/-- All `ReadByte` can do (R42): the head and the queue without it, or nothing on an empty queue. -/
theorem readByte_cases (s : State) :
    (s.rxq = [] ∧ readByte s = none) ∨
      ∃ b rest, s.rxq = b :: rest ∧ readByte s = some (b, { s with rxq := rest }) := by
  unfold readByte
  cases h : s.rxq with
  | nil => simp
  | cons b rest => simp

/-! ### Configuration -/

/-- All `SetLedIndex` can do (R149). -/
theorem setLedIndex_cases (n : Nat) (s : State) :
    (n < s.par.registerCount ∧ setLedIndex n s = { s with shadow := ⟨s.shadow.slaveAddr, n⟩ }) ∨
      (s.par.registerCount ≤ n ∧ setLedIndex n s = s) := by
  unfold setLedIndex
  by_cases h : n < s.par.registerCount
  · exact .inl ⟨h, by simp [h]⟩
  · exact .inr ⟨Nat.le_of_not_lt h, by simp [h]⟩

/-- The strobes of a cycle write the pending copies and nothing else (R148, R149, R151). -/
theorem applyStrobes_eq (p : PortIn) (s : State) :
    applyStrobes p s =
      { s with
        shadow :=
          { slaveAddr := p.cfgAddr.getD s.shadow.slaveAddr
            ledIndex :=
              match p.cfgLed with
              | some n => if n.toNat < s.par.registerCount then n.toNat else s.shadow.ledIndex
              | none => s.shadow.ledIndex } } := by
  obtain ⟨rst, tick, a, l, rx⟩ := p
  cases l with
  | none => cases a <;> rfl
  | some n => cases a <;> by_cases h : n.toNat < s.par.registerCount <;> simp [applyStrobes, setLedIndex, setSlaveAddr, h]

end Sys2Proof.Machine
end

