-- ==== Sys2Proof/Laws/PerInstr.lean ====
section
/-! SUPPORT. One fact per constructor of `Instr`, for the host's case split: an operation is what the opcode map gives for
its own function code and operands (spec/30_encoding.md R70). -/

namespace Sys2Proof.Laws.CodeKept

/-- The opcode map, given the code and the interpreted operands of `i`, answers `i`; where `i` interprets none, it does
so whatever the parameters are. -/
def Statement (i : Instr) : Prop :=
  match (operation i).2 with
  | some (p1, p2) => opcode i.func p1 p2 = i
  | none => ∀ p1 p2 : Word, opcode i.func p1 p2 = i

theorem unsupported00 : Statement .unsupported00 := fun _ _ => rfl
theorem unsupported01 : Statement .unsupported01 := fun _ _ => rfl
theorem unsupported02 : Statement .unsupported02 := fun _ _ => rfl
theorem read (p1 p2 : Word) : Statement (.read p1 p2) :=
  show opcode 0x03 p1 p2 = .read p1 p2 from rfl
theorem unsupported04 : Statement .unsupported04 := fun _ _ => rfl
theorem unsupported05 : Statement .unsupported05 := fun _ _ => rfl
theorem write (p1 p2 : Word) : Statement (.write p1 p2) :=
  show opcode 0x06 p1 p2 = .write p1 p2 from rfl
theorem unsupported07 : Statement .unsupported07 := fun _ _ => rfl
theorem unsupported08 : Statement .unsupported08 := fun _ _ => rfl
theorem unsupported09 : Statement .unsupported09 := fun _ _ => rfl
theorem unsupported0A : Statement .unsupported0A := fun _ _ => rfl
theorem unsupported0B : Statement .unsupported0B := fun _ _ => rfl
theorem unsupported0C : Statement .unsupported0C := fun _ _ => rfl
theorem unsupported0D : Statement .unsupported0D := fun _ _ => rfl
theorem unsupported0E : Statement .unsupported0E := fun _ _ => rfl
theorem unsupported0F : Statement .unsupported0F := fun _ _ => rfl
theorem unsupported10 : Statement .unsupported10 := fun _ _ => rfl
theorem unsupported11 : Statement .unsupported11 := fun _ _ => rfl
theorem unsupported12 : Statement .unsupported12 := fun _ _ => rfl
theorem unsupported13 : Statement .unsupported13 := fun _ _ => rfl
theorem unsupported14 : Statement .unsupported14 := fun _ _ => rfl
theorem unsupported15 : Statement .unsupported15 := fun _ _ => rfl
theorem unsupported16 : Statement .unsupported16 := fun _ _ => rfl
theorem unsupported17 : Statement .unsupported17 := fun _ _ => rfl
theorem unsupported18 : Statement .unsupported18 := fun _ _ => rfl
theorem unsupported19 : Statement .unsupported19 := fun _ _ => rfl
theorem unsupported1A : Statement .unsupported1A := fun _ _ => rfl
theorem unsupported1B : Statement .unsupported1B := fun _ _ => rfl
theorem unsupported1C : Statement .unsupported1C := fun _ _ => rfl
theorem unsupported1D : Statement .unsupported1D := fun _ _ => rfl
theorem unsupported1E : Statement .unsupported1E := fun _ _ => rfl
theorem unsupported1F : Statement .unsupported1F := fun _ _ => rfl
theorem unsupported20 : Statement .unsupported20 := fun _ _ => rfl
theorem unsupported21 : Statement .unsupported21 := fun _ _ => rfl
theorem unsupported22 : Statement .unsupported22 := fun _ _ => rfl
theorem unsupported23 : Statement .unsupported23 := fun _ _ => rfl
theorem unsupported24 : Statement .unsupported24 := fun _ _ => rfl
theorem unsupported25 : Statement .unsupported25 := fun _ _ => rfl
theorem unsupported26 : Statement .unsupported26 := fun _ _ => rfl
theorem unsupported27 : Statement .unsupported27 := fun _ _ => rfl
theorem unsupported28 : Statement .unsupported28 := fun _ _ => rfl
theorem unsupported29 : Statement .unsupported29 := fun _ _ => rfl
theorem unsupported2A : Statement .unsupported2A := fun _ _ => rfl
theorem unsupported2B : Statement .unsupported2B := fun _ _ => rfl
theorem unsupported2C : Statement .unsupported2C := fun _ _ => rfl
theorem unsupported2D : Statement .unsupported2D := fun _ _ => rfl
theorem unsupported2E : Statement .unsupported2E := fun _ _ => rfl
theorem unsupported2F : Statement .unsupported2F := fun _ _ => rfl
theorem unsupported30 : Statement .unsupported30 := fun _ _ => rfl
theorem unsupported31 : Statement .unsupported31 := fun _ _ => rfl
theorem unsupported32 : Statement .unsupported32 := fun _ _ => rfl
theorem unsupported33 : Statement .unsupported33 := fun _ _ => rfl
theorem unsupported34 : Statement .unsupported34 := fun _ _ => rfl
theorem unsupported35 : Statement .unsupported35 := fun _ _ => rfl
theorem unsupported36 : Statement .unsupported36 := fun _ _ => rfl
theorem unsupported37 : Statement .unsupported37 := fun _ _ => rfl
theorem unsupported38 : Statement .unsupported38 := fun _ _ => rfl
theorem unsupported39 : Statement .unsupported39 := fun _ _ => rfl
theorem unsupported3A : Statement .unsupported3A := fun _ _ => rfl
theorem unsupported3B : Statement .unsupported3B := fun _ _ => rfl
theorem unsupported3C : Statement .unsupported3C := fun _ _ => rfl
theorem unsupported3D : Statement .unsupported3D := fun _ _ => rfl
theorem unsupported3E : Statement .unsupported3E := fun _ _ => rfl
theorem unsupported3F : Statement .unsupported3F := fun _ _ => rfl
theorem unsupported40 : Statement .unsupported40 := fun _ _ => rfl
theorem unsupported41 : Statement .unsupported41 := fun _ _ => rfl
theorem unsupported42 : Statement .unsupported42 := fun _ _ => rfl
theorem unsupported43 : Statement .unsupported43 := fun _ _ => rfl
theorem unsupported44 : Statement .unsupported44 := fun _ _ => rfl
theorem unsupported45 : Statement .unsupported45 := fun _ _ => rfl
theorem unsupported46 : Statement .unsupported46 := fun _ _ => rfl
theorem unsupported47 : Statement .unsupported47 := fun _ _ => rfl
theorem unsupported48 : Statement .unsupported48 := fun _ _ => rfl
theorem unsupported49 : Statement .unsupported49 := fun _ _ => rfl
theorem unsupported4A : Statement .unsupported4A := fun _ _ => rfl
theorem unsupported4B : Statement .unsupported4B := fun _ _ => rfl
theorem unsupported4C : Statement .unsupported4C := fun _ _ => rfl
theorem unsupported4D : Statement .unsupported4D := fun _ _ => rfl
theorem unsupported4E : Statement .unsupported4E := fun _ _ => rfl
theorem unsupported4F : Statement .unsupported4F := fun _ _ => rfl
theorem unsupported50 : Statement .unsupported50 := fun _ _ => rfl
theorem unsupported51 : Statement .unsupported51 := fun _ _ => rfl
theorem unsupported52 : Statement .unsupported52 := fun _ _ => rfl
theorem unsupported53 : Statement .unsupported53 := fun _ _ => rfl
theorem unsupported54 : Statement .unsupported54 := fun _ _ => rfl
theorem unsupported55 : Statement .unsupported55 := fun _ _ => rfl
theorem unsupported56 : Statement .unsupported56 := fun _ _ => rfl
theorem unsupported57 : Statement .unsupported57 := fun _ _ => rfl
theorem unsupported58 : Statement .unsupported58 := fun _ _ => rfl
theorem unsupported59 : Statement .unsupported59 := fun _ _ => rfl
theorem unsupported5A : Statement .unsupported5A := fun _ _ => rfl
theorem unsupported5B : Statement .unsupported5B := fun _ _ => rfl
theorem unsupported5C : Statement .unsupported5C := fun _ _ => rfl
theorem unsupported5D : Statement .unsupported5D := fun _ _ => rfl
theorem unsupported5E : Statement .unsupported5E := fun _ _ => rfl
theorem unsupported5F : Statement .unsupported5F := fun _ _ => rfl
theorem unsupported60 : Statement .unsupported60 := fun _ _ => rfl
theorem unsupported61 : Statement .unsupported61 := fun _ _ => rfl
theorem unsupported62 : Statement .unsupported62 := fun _ _ => rfl
theorem unsupported63 : Statement .unsupported63 := fun _ _ => rfl
theorem unsupported64 : Statement .unsupported64 := fun _ _ => rfl
theorem unsupported65 : Statement .unsupported65 := fun _ _ => rfl
theorem unsupported66 : Statement .unsupported66 := fun _ _ => rfl
theorem unsupported67 : Statement .unsupported67 := fun _ _ => rfl
theorem unsupported68 : Statement .unsupported68 := fun _ _ => rfl
theorem unsupported69 : Statement .unsupported69 := fun _ _ => rfl
theorem unsupported6A : Statement .unsupported6A := fun _ _ => rfl
theorem unsupported6B : Statement .unsupported6B := fun _ _ => rfl
theorem unsupported6C : Statement .unsupported6C := fun _ _ => rfl
theorem unsupported6D : Statement .unsupported6D := fun _ _ => rfl
theorem unsupported6E : Statement .unsupported6E := fun _ _ => rfl
theorem unsupported6F : Statement .unsupported6F := fun _ _ => rfl
theorem unsupported70 : Statement .unsupported70 := fun _ _ => rfl
theorem unsupported71 : Statement .unsupported71 := fun _ _ => rfl
theorem unsupported72 : Statement .unsupported72 := fun _ _ => rfl
theorem unsupported73 : Statement .unsupported73 := fun _ _ => rfl
theorem unsupported74 : Statement .unsupported74 := fun _ _ => rfl
theorem unsupported75 : Statement .unsupported75 := fun _ _ => rfl
theorem unsupported76 : Statement .unsupported76 := fun _ _ => rfl
theorem unsupported77 : Statement .unsupported77 := fun _ _ => rfl
theorem unsupported78 : Statement .unsupported78 := fun _ _ => rfl
theorem unsupported79 : Statement .unsupported79 := fun _ _ => rfl
theorem unsupported7A : Statement .unsupported7A := fun _ _ => rfl
theorem unsupported7B : Statement .unsupported7B := fun _ _ => rfl
theorem unsupported7C : Statement .unsupported7C := fun _ _ => rfl
theorem unsupported7D : Statement .unsupported7D := fun _ _ => rfl
theorem unsupported7E : Statement .unsupported7E := fun _ _ => rfl
theorem unsupported7F : Statement .unsupported7F := fun _ _ => rfl
theorem unsupported80 : Statement .unsupported80 := fun _ _ => rfl
theorem unsupported81 : Statement .unsupported81 := fun _ _ => rfl
theorem unsupported82 : Statement .unsupported82 := fun _ _ => rfl
theorem unsupported83 : Statement .unsupported83 := fun _ _ => rfl
theorem unsupported84 : Statement .unsupported84 := fun _ _ => rfl
theorem unsupported85 : Statement .unsupported85 := fun _ _ => rfl
theorem unsupported86 : Statement .unsupported86 := fun _ _ => rfl
theorem unsupported87 : Statement .unsupported87 := fun _ _ => rfl
theorem unsupported88 : Statement .unsupported88 := fun _ _ => rfl
theorem unsupported89 : Statement .unsupported89 := fun _ _ => rfl
theorem unsupported8A : Statement .unsupported8A := fun _ _ => rfl
theorem unsupported8B : Statement .unsupported8B := fun _ _ => rfl
theorem unsupported8C : Statement .unsupported8C := fun _ _ => rfl
theorem unsupported8D : Statement .unsupported8D := fun _ _ => rfl
theorem unsupported8E : Statement .unsupported8E := fun _ _ => rfl
theorem unsupported8F : Statement .unsupported8F := fun _ _ => rfl
theorem unsupported90 : Statement .unsupported90 := fun _ _ => rfl
theorem unsupported91 : Statement .unsupported91 := fun _ _ => rfl
theorem unsupported92 : Statement .unsupported92 := fun _ _ => rfl
theorem unsupported93 : Statement .unsupported93 := fun _ _ => rfl
theorem unsupported94 : Statement .unsupported94 := fun _ _ => rfl
theorem unsupported95 : Statement .unsupported95 := fun _ _ => rfl
theorem unsupported96 : Statement .unsupported96 := fun _ _ => rfl
theorem unsupported97 : Statement .unsupported97 := fun _ _ => rfl
theorem unsupported98 : Statement .unsupported98 := fun _ _ => rfl
theorem unsupported99 : Statement .unsupported99 := fun _ _ => rfl
theorem unsupported9A : Statement .unsupported9A := fun _ _ => rfl
theorem unsupported9B : Statement .unsupported9B := fun _ _ => rfl
theorem unsupported9C : Statement .unsupported9C := fun _ _ => rfl
theorem unsupported9D : Statement .unsupported9D := fun _ _ => rfl
theorem unsupported9E : Statement .unsupported9E := fun _ _ => rfl
theorem unsupported9F : Statement .unsupported9F := fun _ _ => rfl
theorem unsupportedA0 : Statement .unsupportedA0 := fun _ _ => rfl
theorem unsupportedA1 : Statement .unsupportedA1 := fun _ _ => rfl
theorem unsupportedA2 : Statement .unsupportedA2 := fun _ _ => rfl
theorem unsupportedA3 : Statement .unsupportedA3 := fun _ _ => rfl
theorem unsupportedA4 : Statement .unsupportedA4 := fun _ _ => rfl
theorem unsupportedA5 : Statement .unsupportedA5 := fun _ _ => rfl
theorem unsupportedA6 : Statement .unsupportedA6 := fun _ _ => rfl
theorem unsupportedA7 : Statement .unsupportedA7 := fun _ _ => rfl
theorem unsupportedA8 : Statement .unsupportedA8 := fun _ _ => rfl
theorem unsupportedA9 : Statement .unsupportedA9 := fun _ _ => rfl
theorem unsupportedAA : Statement .unsupportedAA := fun _ _ => rfl
theorem unsupportedAB : Statement .unsupportedAB := fun _ _ => rfl
theorem unsupportedAC : Statement .unsupportedAC := fun _ _ => rfl
theorem unsupportedAD : Statement .unsupportedAD := fun _ _ => rfl
theorem unsupportedAE : Statement .unsupportedAE := fun _ _ => rfl
theorem unsupportedAF : Statement .unsupportedAF := fun _ _ => rfl
theorem unsupportedB0 : Statement .unsupportedB0 := fun _ _ => rfl
theorem unsupportedB1 : Statement .unsupportedB1 := fun _ _ => rfl
theorem unsupportedB2 : Statement .unsupportedB2 := fun _ _ => rfl
theorem unsupportedB3 : Statement .unsupportedB3 := fun _ _ => rfl
theorem unsupportedB4 : Statement .unsupportedB4 := fun _ _ => rfl
theorem unsupportedB5 : Statement .unsupportedB5 := fun _ _ => rfl
theorem unsupportedB6 : Statement .unsupportedB6 := fun _ _ => rfl
theorem unsupportedB7 : Statement .unsupportedB7 := fun _ _ => rfl
theorem unsupportedB8 : Statement .unsupportedB8 := fun _ _ => rfl
theorem unsupportedB9 : Statement .unsupportedB9 := fun _ _ => rfl
theorem unsupportedBA : Statement .unsupportedBA := fun _ _ => rfl
theorem unsupportedBB : Statement .unsupportedBB := fun _ _ => rfl
theorem unsupportedBC : Statement .unsupportedBC := fun _ _ => rfl
theorem unsupportedBD : Statement .unsupportedBD := fun _ _ => rfl
theorem unsupportedBE : Statement .unsupportedBE := fun _ _ => rfl
theorem unsupportedBF : Statement .unsupportedBF := fun _ _ => rfl
theorem unsupportedC0 : Statement .unsupportedC0 := fun _ _ => rfl
theorem unsupportedC1 : Statement .unsupportedC1 := fun _ _ => rfl
theorem unsupportedC2 : Statement .unsupportedC2 := fun _ _ => rfl
theorem unsupportedC3 : Statement .unsupportedC3 := fun _ _ => rfl
theorem unsupportedC4 : Statement .unsupportedC4 := fun _ _ => rfl
theorem unsupportedC5 : Statement .unsupportedC5 := fun _ _ => rfl
theorem unsupportedC6 : Statement .unsupportedC6 := fun _ _ => rfl
theorem unsupportedC7 : Statement .unsupportedC7 := fun _ _ => rfl
theorem unsupportedC8 : Statement .unsupportedC8 := fun _ _ => rfl
theorem unsupportedC9 : Statement .unsupportedC9 := fun _ _ => rfl
theorem unsupportedCA : Statement .unsupportedCA := fun _ _ => rfl
theorem unsupportedCB : Statement .unsupportedCB := fun _ _ => rfl
theorem unsupportedCC : Statement .unsupportedCC := fun _ _ => rfl
theorem unsupportedCD : Statement .unsupportedCD := fun _ _ => rfl
theorem unsupportedCE : Statement .unsupportedCE := fun _ _ => rfl
theorem unsupportedCF : Statement .unsupportedCF := fun _ _ => rfl
theorem unsupportedD0 : Statement .unsupportedD0 := fun _ _ => rfl
theorem unsupportedD1 : Statement .unsupportedD1 := fun _ _ => rfl
theorem unsupportedD2 : Statement .unsupportedD2 := fun _ _ => rfl
theorem unsupportedD3 : Statement .unsupportedD3 := fun _ _ => rfl
theorem unsupportedD4 : Statement .unsupportedD4 := fun _ _ => rfl
theorem unsupportedD5 : Statement .unsupportedD5 := fun _ _ => rfl
theorem unsupportedD6 : Statement .unsupportedD6 := fun _ _ => rfl
theorem unsupportedD7 : Statement .unsupportedD7 := fun _ _ => rfl
theorem unsupportedD8 : Statement .unsupportedD8 := fun _ _ => rfl
theorem unsupportedD9 : Statement .unsupportedD9 := fun _ _ => rfl
theorem unsupportedDA : Statement .unsupportedDA := fun _ _ => rfl
theorem unsupportedDB : Statement .unsupportedDB := fun _ _ => rfl
theorem unsupportedDC : Statement .unsupportedDC := fun _ _ => rfl
theorem unsupportedDD : Statement .unsupportedDD := fun _ _ => rfl
theorem unsupportedDE : Statement .unsupportedDE := fun _ _ => rfl
theorem unsupportedDF : Statement .unsupportedDF := fun _ _ => rfl
theorem unsupportedE0 : Statement .unsupportedE0 := fun _ _ => rfl
theorem unsupportedE1 : Statement .unsupportedE1 := fun _ _ => rfl
theorem unsupportedE2 : Statement .unsupportedE2 := fun _ _ => rfl
theorem unsupportedE3 : Statement .unsupportedE3 := fun _ _ => rfl
theorem unsupportedE4 : Statement .unsupportedE4 := fun _ _ => rfl
theorem unsupportedE5 : Statement .unsupportedE5 := fun _ _ => rfl
theorem unsupportedE6 : Statement .unsupportedE6 := fun _ _ => rfl
theorem unsupportedE7 : Statement .unsupportedE7 := fun _ _ => rfl
theorem unsupportedE8 : Statement .unsupportedE8 := fun _ _ => rfl
theorem unsupportedE9 : Statement .unsupportedE9 := fun _ _ => rfl
theorem unsupportedEA : Statement .unsupportedEA := fun _ _ => rfl
theorem unsupportedEB : Statement .unsupportedEB := fun _ _ => rfl
theorem unsupportedEC : Statement .unsupportedEC := fun _ _ => rfl
theorem unsupportedED : Statement .unsupportedED := fun _ _ => rfl
theorem unsupportedEE : Statement .unsupportedEE := fun _ _ => rfl
theorem unsupportedEF : Statement .unsupportedEF := fun _ _ => rfl
theorem unsupportedF0 : Statement .unsupportedF0 := fun _ _ => rfl
theorem unsupportedF1 : Statement .unsupportedF1 := fun _ _ => rfl
theorem unsupportedF2 : Statement .unsupportedF2 := fun _ _ => rfl
theorem unsupportedF3 : Statement .unsupportedF3 := fun _ _ => rfl
theorem unsupportedF4 : Statement .unsupportedF4 := fun _ _ => rfl
theorem unsupportedF5 : Statement .unsupportedF5 := fun _ _ => rfl
theorem unsupportedF6 : Statement .unsupportedF6 := fun _ _ => rfl
theorem unsupportedF7 : Statement .unsupportedF7 := fun _ _ => rfl
theorem unsupportedF8 : Statement .unsupportedF8 := fun _ _ => rfl
theorem unsupportedF9 : Statement .unsupportedF9 := fun _ _ => rfl
theorem unsupportedFA : Statement .unsupportedFA := fun _ _ => rfl
theorem unsupportedFB : Statement .unsupportedFB := fun _ _ => rfl
theorem unsupportedFC : Statement .unsupportedFC := fun _ _ => rfl
theorem unsupportedFD : Statement .unsupportedFD := fun _ _ => rfl
theorem unsupportedFE : Statement .unsupportedFE := fun _ _ => rfl
theorem unsupportedFF : Statement .unsupportedFF := fun _ _ => rfl

end Sys2Proof.Laws.CodeKept
end

