-- ==== Sys2Proof/Laws/Steps.lean ====
section
/-! SUPPORT. Inversion: once, what an instruction, a phase and a cycle can do when they answer a next state. -/

namespace Sys2Proof.Machine

/-- An operation that interprets no operands has one of the 254 codes of R118, and all of them act the same. -/
theorem exec_of_not_interprets {i : Instr} (h : i.interprets = false) (s : State) : exec i s = ignoreRequest s := by
  cases i <;> first | rfl | cases h

/-- All a Read can do when it answers a next state (R113, R114). -/
theorem execRead_cases {start count : Word} {s t : State} (h : execRead start count s = .next t) :
    ((overStore s start count || overCap s count) = true ∧
        t = raiseEvent .outOfRangeRead (oorBits (overCap s count) (overStore s start count)) .drain s) ∨
      ∃ vs, overStore s start count = false ∧ overCap s count = false ∧
        memRead s start.toNat count.toNat = some vs ∧
        t = raiseEvent .readOk 0 .emit { encodeRead s.cfg.slaveAddr count.toNat vs s with i := count.toNat, k := 0 } := by
  unfold execRead at h
  split at h
  · rename_i hr; cases h; exact .inl ⟨hr, rfl⟩
  · rename_i hr
    simp only [Bool.or_eq_true, not_or, Bool.not_eq_true] at hr
    split at h
    · rename_i vs hvs; cases h; exact .inr ⟨vs, hr.1, hr.2, hvs, rfl⟩
    · cases h

/-- All a Write can do: it always answers a next state (R115, R116). -/
theorem execWrite_cases (reg value : Word) (s : State) :
    (reg.toNat < s.par.registerCount ∧
        execWrite reg value s = .next (raiseEvent .writeOk 0 .emit
          { encodeWrite { s with x := s.x.set reg.toNat value } with k := 0 })) ∨
      (s.par.registerCount ≤ reg.toNat ∧
        execWrite reg value s = .next (raiseEvent .writeOutOfRangeAck 0 .emit { encodeWrite s with k := 0 })) := by
  obtain ⟨h, hw⟩ | ⟨h, hw⟩ := memWrite_cases s reg.toNat value
  · exact .inl ⟨h, by simp [execWrite, hw]⟩
  · exact .inr ⟨h, by simp [execWrite, hw]⟩

/-- All a byte of `CONSUME` can do when it answers a next state (R104). -/
theorem phaseConsume_cases {s t : State} (h : phaseConsume s = .next t) :
    (8 ≤ s.k ∧ t = gotoPhase .checkAddr s) ∨
      ∃ b rest, s.k < 8 ∧ s.rxq = b :: rest ∧
        t = { s with
              rxq := rest, req := setByte s.req s.k b, k := s.k + 1
              pc := if s.k + 1 < 8 then .consume else .checkAddr } := by
  unfold phaseConsume at h
  split at h
  · rename_i hk
    obtain ⟨-, hr⟩ | ⟨b, rest, hq, hr⟩ := readByte_cases s
    · simp [hr] at h
    · simp only [hr] at h
      cases h
      exact .inr ⟨b, rest, hk, hq, rfl⟩
  · rename_i hk; cases h; exact .inl ⟨by omega, rfl⟩

/-- All the CRC check can do: it always answers a next state (R106). -/
theorem phaseCheckCrc_eq (s : State) :
    phaseCheckCrc s = .next
      (if crc16 (frameBody s.req) = rqCrc s then { gotoPhase .dispatch s with crc := crc16 (frameBody s.req) }
        else { raiseEvent .crcMismatch 0 .drain s with crc := crc16 (frameBody s.req) }) := by
  unfold phaseCheckCrc
  rw [crcVerify_frame]
  by_cases h : crc16 (frameBody s.req) = rqCrc s
  · rw [if_pos h]
    simp only [rqCrc] at h
    simp [h]
  · rw [if_neg h]
    have : (crc16 (frameBody s.req) == join s.req.crcHi s.req.crcLo) = false := by simpa [rqCrc] using h
    rw [this]

/-- All a byte of `EMIT` can do: it always answers a next state (R128, R135). -/
theorem phaseEmit_cases (s : State) :
    (∃ b, s.k < s.resp.length ∧ s.resp[s.k]? = some b ∧
        phaseEmit s = .next { sinkWrite [b] s with
          k := s.k + 1, pc := if s.k + 1 < s.resp.length then .emit else .drain }) ∨
      (s.resp.length ≤ s.k ∧ phaseEmit s = .next (gotoPhase .drain s)) := by
  unfold phaseEmit
  by_cases h : s.k < s.resp.length
  · exact .inl ⟨s.resp[s.k], h, by simp [h], by simp [h]⟩
  · exact .inr ⟨by omega, by simp [Nat.le_of_not_lt h]⟩

/-- All a sample of `DRAIN` can do: it always answers a next state (R136). -/
theorem phaseDrain_cases (s : State) :
    (∃ b rest, s.rxq = b :: rest ∧ phaseDrain s = .next { s with rxq := rest }) ∨
      (s.rxq = [] ∧ phaseDrain s = .next (gotoPhase .output s)) := by
  obtain ⟨hq, hr⟩ | ⟨b, rest, hq, hr⟩ := readByte_cases s
  · exact .inr ⟨hq, by simp [phaseDrain, hr]⟩
  · exact .inl ⟨b, rest, hq, by simp [phaseDrain, hr]⟩

/-- All `OUTPUT` can do when it answers a next state (R139, R140). -/
theorem phaseOutput_cases {s t : State} (h : phaseOutput s = .next t) :
    ∃ v, s.x[s.cfg.ledIndex]? = some v ∧ t = latchOutcome (setOutput (active v) s) := by
  unfold phaseOutput at h
  split at h
  · rename_i v hv; cases h; exact ⟨v, hv, rfl⟩
  · cases h

/-- All a step can do when it answers a next state: a reset cycle, or the phase action followed by the strobes. -/
theorem step_cases {s t : State} (h : step s = .next t) :
    ((portsNow s).rst = true ∧ t = resetEngine (seen s)) ∨
      ∃ u, (portsNow s).rst = false ∧ phaseAction (portsNow s).tick (seen s) = .next u ∧
        t = applyStrobes (portsNow s) u := by
  unfold step cycle at h
  split at h
  · split at h
    · rename_i hr; cases h; exact .inl ⟨hr, rfl⟩
    · rename_i hr
      obtain ⟨u, hu, ht⟩ := thenDo_eq_next.mp h
      cases ht
      exact .inr ⟨u, by simpa using hr, hu, rfl⟩
  · cases h

/-- A step with no scheduled input is the phase action alone. -/
theorem step_of_no_input {s : State} (h : s.env = []) : step s = phaseAction false s := by
  have hs : arrive [] (takePorts s) = s := by
    cases s; simp only at h; subst h; simp [arrive, takePorts]
  have hc : cycle PortIn.idle (takePorts s) = phaseAction false s := by
    simp only [cycle, PortIn.idle, hs]
    have : hasRoom (takePorts s) [] = true := by
      unfold hasRoom; split <;> rfl
    rw [if_pos this]
    cases hp : phaseAction false s <;> simp [thenDo, applyStrobes]
  simpa [step, portsNow, h] using hc

/-! ### Runs -/

theorem arriving_of_no_input {s : State} (h : s.env = []) : arriving s = 0 := by simp [arriving, h]

/-- What a cycle does to the bytes still to come: its own move into the receive queue, the others stay (R31, log 23). -/
theorem arriving_seen (s : State) : arriving s = (portsNow s).rx.length + arriving (seen s) := by
  unfold arriving portsNow seen arrive takePorts
  cases s.env <;> simp [PortIn.idle]

@[simp] theorem run_zero (s : State) : run 0 s = .next s := rfl

theorem hostRun_next (M : Host.Core) {n : Nat} {s t : M.State} (h : M.step s = .next t) :
    M.run (n + 1) s = M.run n t := by
  rw [Host.Core.run, h]

theorem hostRun_fault (M : Host.Core) {n : Nat} {s : M.State} {e : M.Fault} (h : M.step s = .fault e) :
    M.run (n + 1) s = .fault e := by
  rw [Host.Core.run, h]

theorem hostRun_refused (M : Host.Core) {n : Nat} {s : M.State} {e : M.Refusal} (h : M.step s = .refused e) :
    M.run (n + 1) s = .refused e := by
  rw [Host.Core.run, h]

/-- A run of `n + 1` steps: the first step, then the others. -/
theorem run_succ (n : Nat) (s : State) : run (n + 1) s = thenDo (step s) (run n) := by
  cases h : step s with
  | next t => exact hostRun_next Sys2Proof.core h
  | fault e => exact hostRun_fault Sys2Proof.core h
  | refused e => exact hostRun_refused Sys2Proof.core h

theorem run_next {n : Nat} {s t : State} (h : step s = .next t) : run (n + 1) s = run n t := by
  rw [run_succ, h, thenDo_next]

end Sys2Proof.Machine
end

