-- ==== Sys2Proof/Machine/Script.lean ====
section
/-! DEFINITION. The notation for requests and the script directives (spec/30_encoding.md R76, R77). -/

namespace Sys2Proof.Machine

/-- `FUNC a, f, p1, p2` (R76): the bytes of a request with any function code and its right CRC. -/
def funcBytes (a f : Byte) (p1 p2 : Word) : List Byte :=
  frameBytes (frameOfFields ⟨a, f, p1, p2, requiredCrc ⟨a, f, p1, p2, 0⟩⟩)

/-- `READ a, start, count` (R76). -/
def readBytes (a : Byte) (start count : Word) : List Byte := funcBytes a 0x03 start count

/-- `WRITE a, reg, value` (R76). -/
def writeBytes (a : Byte) (reg value : Word) : List Byte := funcBytes a 0x06 reg value

/-- The directives of R77 that act on the machine (`EXPECT` is a claim about the state after them). -/
inductive Directive where
  /-- `SEND`: the master's bytes are appended to the receive queue. -/
  | send (bytes : List Byte)
  /-- `TICK d1, d2, ...`: a whole tick, no byte arriving during it, with these draws. -/
  | tick (draws : List Word)
  /-- `SETADDR v`. -/
  | setAddr (v : Byte)
  /-- `SETLED n`. -/
  | setLed (n : Nat)
  /-- `RESET`. -/
  | reset
  deriving DecidableEq, Repr

/-- One directive, between ticks (R77). -/
def runDirective (d : Directive) (s : State) : Result :=
  match d with
  | .send bytes => if hasRoom s bytes then .next (arrive bytes s) else .refused .rxOverflow
  | .tick draws => tick { s with rnd := { s.rnd with queue := draws } }
  | .setAddr v => .next (setSlaveAddr v s)
  | .setLed n => .next (setLedIndex n s)
  | .reset => .next (resetEngine s)

/-- A script: its directives in order (R77). -/
def runScript : List Directive → State → Result
  | [], s => .next s
  | d :: ds, s => thenDo (runDirective d s) (runScript ds)

end Sys2Proof.Machine
end

