-- ==== Sys2Proof/Tests/Slice0.lean ====
section
/-! SUPPORT. Own tests: every row of the opcode table decoded from a word written out from the spec's encoding, the
well-formedness smoke test, single steps and single ticks on the spec's vectors, and for every obligation with
hypotheses states and operands that meet them. -/

namespace Sys2Proof.Tests

open Sys2Proof.Machine

/-! ### Decoding. The words are those of `FUNC 1, f, 0x0102, 0x0304` in the layout of spec/30_encoding.md R62, R63, the
CRC bytes computed by hand for each code (for 0xFF it is the spec's own row of V-ENC-1). -/

theorem test_decode_row_0 :
    decodeTableWord 64 0x010001020304A0C5 = some .unsupported00 ∧
    decodeTableWord 64 0x0101010203049D05 = some .unsupported01 ∧
    decodeTableWord 64 0x010201020304D905 = some .unsupported02 ∧
    decodeTableWord 64 0x010301020304E4C5 = some (.read 0x0102 0x0304) ∧
    decodeTableWord 64 0x0104010203045105 = some .unsupported04 ∧
    decodeTableWord 64 0x0105010203046CC5 = some .unsupported05 ∧
    decodeTableWord 64 0x01060102030428C5 = some (.write 0x0102 0x0304) ∧
    decodeTableWord 64 0x0107010203041505 = some .unsupported07 ∧
    decodeTableWord 64 0x0108010203044104 = some .unsupported08 ∧
    decodeTableWord 64 0x0109010203047CC4 = some .unsupported09 ∧
    decodeTableWord 64 0x010A0102030438C4 = some .unsupported0A ∧
    decodeTableWord 64 0x010B010203040504 = some .unsupported0B ∧
    decodeTableWord 64 0x010C01020304B0C4 = some .unsupported0C ∧
    decodeTableWord 64 0x010D010203048D04 = some .unsupported0D ∧
    decodeTableWord 64 0x010E01020304C904 = some .unsupported0E ∧
    decodeTableWord 64 0x010F01020304F4C4 = some .unsupported0F := by decide

theorem test_decode_row_1 :
    decodeTableWord 64 0x0110010203046106 = some .unsupported10 ∧
    decodeTableWord 64 0x0111010203045CC6 = some .unsupported11 ∧
    decodeTableWord 64 0x01120102030418C6 = some .unsupported12 ∧
    decodeTableWord 64 0x0113010203042506 = some .unsupported13 ∧
    decodeTableWord 64 0x01140102030490C6 = some .unsupported14 ∧
    decodeTableWord 64 0x011501020304AD06 = some .unsupported15 ∧
    decodeTableWord 64 0x011601020304E906 = some .unsupported16 ∧
    decodeTableWord 64 0x011701020304D4C6 = some .unsupported17 ∧
    decodeTableWord 64 0x01180102030480C7 = some .unsupported18 ∧
    decodeTableWord 64 0x011901020304BD07 = some .unsupported19 ∧
    decodeTableWord 64 0x011A01020304F907 = some .unsupported1A ∧
    decodeTableWord 64 0x011B01020304C4C7 = some .unsupported1B ∧
    decodeTableWord 64 0x011C010203047107 = some .unsupported1C ∧
    decodeTableWord 64 0x011D010203044CC7 = some .unsupported1D ∧
    decodeTableWord 64 0x011E0102030408C7 = some .unsupported1E ∧
    decodeTableWord 64 0x011F010203043507 = some .unsupported1F := by decide

theorem test_decode_row_2 :
    decodeTableWord 64 0x0120010203042102 = some .unsupported20 ∧
    decodeTableWord 64 0x0121010203041CC2 = some .unsupported21 ∧
    decodeTableWord 64 0x01220102030458C2 = some .unsupported22 ∧
    decodeTableWord 64 0x0123010203046502 = some .unsupported23 ∧
    decodeTableWord 64 0x012401020304D0C2 = some .unsupported24 ∧
    decodeTableWord 64 0x012501020304ED02 = some .unsupported25 ∧
    decodeTableWord 64 0x012601020304A902 = some .unsupported26 ∧
    decodeTableWord 64 0x01270102030494C2 = some .unsupported27 ∧
    decodeTableWord 64 0x012801020304C0C3 = some .unsupported28 ∧
    decodeTableWord 64 0x012901020304FD03 = some .unsupported29 ∧
    decodeTableWord 64 0x012A01020304B903 = some .unsupported2A ∧
    decodeTableWord 64 0x012B0102030484C3 = some .unsupported2B ∧
    decodeTableWord 64 0x012C010203043103 = some .unsupported2C ∧
    decodeTableWord 64 0x012D010203040CC3 = some .unsupported2D ∧
    decodeTableWord 64 0x012E0102030448C3 = some .unsupported2E ∧
    decodeTableWord 64 0x012F010203047503 = some .unsupported2F := by decide

theorem test_decode_row_3 :
    decodeTableWord 64 0x013001020304E0C1 = some .unsupported30 ∧
    decodeTableWord 64 0x013101020304DD01 = some .unsupported31 ∧
    decodeTableWord 64 0x0132010203049901 = some .unsupported32 ∧
    decodeTableWord 64 0x013301020304A4C1 = some .unsupported33 ∧
    decodeTableWord 64 0x0134010203041101 = some .unsupported34 ∧
    decodeTableWord 64 0x0135010203042CC1 = some .unsupported35 ∧
    decodeTableWord 64 0x01360102030468C1 = some .unsupported36 ∧
    decodeTableWord 64 0x0137010203045501 = some .unsupported37 ∧
    decodeTableWord 64 0x0138010203040100 = some .unsupported38 ∧
    decodeTableWord 64 0x0139010203043CC0 = some .unsupported39 ∧
    decodeTableWord 64 0x013A0102030478C0 = some .unsupported3A ∧
    decodeTableWord 64 0x013B010203044500 = some .unsupported3B ∧
    decodeTableWord 64 0x013C01020304F0C0 = some .unsupported3C ∧
    decodeTableWord 64 0x013D01020304CD00 = some .unsupported3D ∧
    decodeTableWord 64 0x013E010203048900 = some .unsupported3E ∧
    decodeTableWord 64 0x013F01020304B4C0 = some .unsupported3F := by decide

theorem test_decode_row_4 :
    decodeTableWord 64 0x014001020304A10A = some .unsupported40 ∧
    decodeTableWord 64 0x0141010203049CCA = some .unsupported41 ∧
    decodeTableWord 64 0x014201020304D8CA = some .unsupported42 ∧
    decodeTableWord 64 0x014301020304E50A = some .unsupported43 ∧
    decodeTableWord 64 0x01440102030450CA = some .unsupported44 ∧
    decodeTableWord 64 0x0145010203046D0A = some .unsupported45 ∧
    decodeTableWord 64 0x014601020304290A = some .unsupported46 ∧
    decodeTableWord 64 0x01470102030414CA = some .unsupported47 ∧
    decodeTableWord 64 0x01480102030440CB = some .unsupported48 ∧
    decodeTableWord 64 0x0149010203047D0B = some .unsupported49 ∧
    decodeTableWord 64 0x014A01020304390B = some .unsupported4A ∧
    decodeTableWord 64 0x014B0102030404CB = some .unsupported4B ∧
    decodeTableWord 64 0x014C01020304B10B = some .unsupported4C ∧
    decodeTableWord 64 0x014D010203048CCB = some .unsupported4D ∧
    decodeTableWord 64 0x014E01020304C8CB = some .unsupported4E ∧
    decodeTableWord 64 0x014F01020304F50B = some .unsupported4F := by decide

theorem test_decode_row_5 :
    decodeTableWord 64 0x01500102030460C9 = some .unsupported50 ∧
    decodeTableWord 64 0x0151010203045D09 = some .unsupported51 ∧
    decodeTableWord 64 0x0152010203041909 = some .unsupported52 ∧
    decodeTableWord 64 0x01530102030424C9 = some .unsupported53 ∧
    decodeTableWord 64 0x0154010203049109 = some .unsupported54 ∧
    decodeTableWord 64 0x015501020304ACC9 = some .unsupported55 ∧
    decodeTableWord 64 0x015601020304E8C9 = some .unsupported56 ∧
    decodeTableWord 64 0x015701020304D509 = some .unsupported57 ∧
    decodeTableWord 64 0x0158010203048108 = some .unsupported58 ∧
    decodeTableWord 64 0x015901020304BCC8 = some .unsupported59 ∧
    decodeTableWord 64 0x015A01020304F8C8 = some .unsupported5A ∧
    decodeTableWord 64 0x015B01020304C508 = some .unsupported5B ∧
    decodeTableWord 64 0x015C0102030470C8 = some .unsupported5C ∧
    decodeTableWord 64 0x015D010203044D08 = some .unsupported5D ∧
    decodeTableWord 64 0x015E010203040908 = some .unsupported5E ∧
    decodeTableWord 64 0x015F0102030434C8 = some .unsupported5F := by decide

theorem test_decode_row_6 :
    decodeTableWord 64 0x01600102030420CD = some .unsupported60 ∧
    decodeTableWord 64 0x0161010203041D0D = some .unsupported61 ∧
    decodeTableWord 64 0x016201020304590D = some .unsupported62 ∧
    decodeTableWord 64 0x01630102030464CD = some .unsupported63 ∧
    decodeTableWord 64 0x016401020304D10D = some .unsupported64 ∧
    decodeTableWord 64 0x016501020304ECCD = some .unsupported65 ∧
    decodeTableWord 64 0x016601020304A8CD = some .unsupported66 ∧
    decodeTableWord 64 0x016701020304950D = some .unsupported67 ∧
    decodeTableWord 64 0x016801020304C10C = some .unsupported68 ∧
    decodeTableWord 64 0x016901020304FCCC = some .unsupported69 ∧
    decodeTableWord 64 0x016A01020304B8CC = some .unsupported6A ∧
    decodeTableWord 64 0x016B01020304850C = some .unsupported6B ∧
    decodeTableWord 64 0x016C0102030430CC = some .unsupported6C ∧
    decodeTableWord 64 0x016D010203040D0C = some .unsupported6D ∧
    decodeTableWord 64 0x016E01020304490C = some .unsupported6E ∧
    decodeTableWord 64 0x016F0102030474CC = some .unsupported6F := by decide

theorem test_decode_row_7 :
    decodeTableWord 64 0x017001020304E10E = some .unsupported70 ∧
    decodeTableWord 64 0x017101020304DCCE = some .unsupported71 ∧
    decodeTableWord 64 0x01720102030498CE = some .unsupported72 ∧
    decodeTableWord 64 0x017301020304A50E = some .unsupported73 ∧
    decodeTableWord 64 0x01740102030410CE = some .unsupported74 ∧
    decodeTableWord 64 0x0175010203042D0E = some .unsupported75 ∧
    decodeTableWord 64 0x017601020304690E = some .unsupported76 ∧
    decodeTableWord 64 0x01770102030454CE = some .unsupported77 ∧
    decodeTableWord 64 0x01780102030400CF = some .unsupported78 ∧
    decodeTableWord 64 0x0179010203043D0F = some .unsupported79 ∧
    decodeTableWord 64 0x017A01020304790F = some .unsupported7A ∧
    decodeTableWord 64 0x017B0102030444CF = some .unsupported7B ∧
    decodeTableWord 64 0x017C01020304F10F = some .unsupported7C ∧
    decodeTableWord 64 0x017D01020304CCCF = some .unsupported7D ∧
    decodeTableWord 64 0x017E0102030488CF = some .unsupported7E ∧
    decodeTableWord 64 0x017F01020304B50F = some .unsupported7F := by decide

theorem test_decode_row_8 :
    decodeTableWord 64 0x018001020304A11B = some .unsupported80 ∧
    decodeTableWord 64 0x0181010203049CDB = some .unsupported81 ∧
    decodeTableWord 64 0x018201020304D8DB = some .unsupported82 ∧
    decodeTableWord 64 0x018301020304E51B = some .unsupported83 ∧
    decodeTableWord 64 0x01840102030450DB = some .unsupported84 ∧
    decodeTableWord 64 0x0185010203046D1B = some .unsupported85 ∧
    decodeTableWord 64 0x018601020304291B = some .unsupported86 ∧
    decodeTableWord 64 0x01870102030414DB = some .unsupported87 ∧
    decodeTableWord 64 0x01880102030440DA = some .unsupported88 ∧
    decodeTableWord 64 0x0189010203047D1A = some .unsupported89 ∧
    decodeTableWord 64 0x018A01020304391A = some .unsupported8A ∧
    decodeTableWord 64 0x018B0102030404DA = some .unsupported8B ∧
    decodeTableWord 64 0x018C01020304B11A = some .unsupported8C ∧
    decodeTableWord 64 0x018D010203048CDA = some .unsupported8D ∧
    decodeTableWord 64 0x018E01020304C8DA = some .unsupported8E ∧
    decodeTableWord 64 0x018F01020304F51A = some .unsupported8F := by decide

theorem test_decode_row_9 :
    decodeTableWord 64 0x01900102030460D8 = some .unsupported90 ∧
    decodeTableWord 64 0x0191010203045D18 = some .unsupported91 ∧
    decodeTableWord 64 0x0192010203041918 = some .unsupported92 ∧
    decodeTableWord 64 0x01930102030424D8 = some .unsupported93 ∧
    decodeTableWord 64 0x0194010203049118 = some .unsupported94 ∧
    decodeTableWord 64 0x019501020304ACD8 = some .unsupported95 ∧
    decodeTableWord 64 0x019601020304E8D8 = some .unsupported96 ∧
    decodeTableWord 64 0x019701020304D518 = some .unsupported97 ∧
    decodeTableWord 64 0x0198010203048119 = some .unsupported98 ∧
    decodeTableWord 64 0x019901020304BCD9 = some .unsupported99 ∧
    decodeTableWord 64 0x019A01020304F8D9 = some .unsupported9A ∧
    decodeTableWord 64 0x019B01020304C519 = some .unsupported9B ∧
    decodeTableWord 64 0x019C0102030470D9 = some .unsupported9C ∧
    decodeTableWord 64 0x019D010203044D19 = some .unsupported9D ∧
    decodeTableWord 64 0x019E010203040919 = some .unsupported9E ∧
    decodeTableWord 64 0x019F0102030434D9 = some .unsupported9F := by decide

theorem test_decode_row_A :
    decodeTableWord 64 0x01A00102030420DC = some .unsupportedA0 ∧
    decodeTableWord 64 0x01A1010203041D1C = some .unsupportedA1 ∧
    decodeTableWord 64 0x01A201020304591C = some .unsupportedA2 ∧
    decodeTableWord 64 0x01A30102030464DC = some .unsupportedA3 ∧
    decodeTableWord 64 0x01A401020304D11C = some .unsupportedA4 ∧
    decodeTableWord 64 0x01A501020304ECDC = some .unsupportedA5 ∧
    decodeTableWord 64 0x01A601020304A8DC = some .unsupportedA6 ∧
    decodeTableWord 64 0x01A701020304951C = some .unsupportedA7 ∧
    decodeTableWord 64 0x01A801020304C11D = some .unsupportedA8 ∧
    decodeTableWord 64 0x01A901020304FCDD = some .unsupportedA9 ∧
    decodeTableWord 64 0x01AA01020304B8DD = some .unsupportedAA ∧
    decodeTableWord 64 0x01AB01020304851D = some .unsupportedAB ∧
    decodeTableWord 64 0x01AC0102030430DD = some .unsupportedAC ∧
    decodeTableWord 64 0x01AD010203040D1D = some .unsupportedAD ∧
    decodeTableWord 64 0x01AE01020304491D = some .unsupportedAE ∧
    decodeTableWord 64 0x01AF0102030474DD = some .unsupportedAF := by decide

theorem test_decode_row_B :
    decodeTableWord 64 0x01B001020304E11F = some .unsupportedB0 ∧
    decodeTableWord 64 0x01B101020304DCDF = some .unsupportedB1 ∧
    decodeTableWord 64 0x01B20102030498DF = some .unsupportedB2 ∧
    decodeTableWord 64 0x01B301020304A51F = some .unsupportedB3 ∧
    decodeTableWord 64 0x01B40102030410DF = some .unsupportedB4 ∧
    decodeTableWord 64 0x01B5010203042D1F = some .unsupportedB5 ∧
    decodeTableWord 64 0x01B601020304691F = some .unsupportedB6 ∧
    decodeTableWord 64 0x01B70102030454DF = some .unsupportedB7 ∧
    decodeTableWord 64 0x01B80102030400DE = some .unsupportedB8 ∧
    decodeTableWord 64 0x01B9010203043D1E = some .unsupportedB9 ∧
    decodeTableWord 64 0x01BA01020304791E = some .unsupportedBA ∧
    decodeTableWord 64 0x01BB0102030444DE = some .unsupportedBB ∧
    decodeTableWord 64 0x01BC01020304F11E = some .unsupportedBC ∧
    decodeTableWord 64 0x01BD01020304CCDE = some .unsupportedBD ∧
    decodeTableWord 64 0x01BE0102030488DE = some .unsupportedBE ∧
    decodeTableWord 64 0x01BF01020304B51E = some .unsupportedBF := by decide

theorem test_decode_row_C :
    decodeTableWord 64 0x01C001020304A0D4 = some .unsupportedC0 ∧
    decodeTableWord 64 0x01C1010203049D14 = some .unsupportedC1 ∧
    decodeTableWord 64 0x01C201020304D914 = some .unsupportedC2 ∧
    decodeTableWord 64 0x01C301020304E4D4 = some .unsupportedC3 ∧
    decodeTableWord 64 0x01C4010203045114 = some .unsupportedC4 ∧
    decodeTableWord 64 0x01C5010203046CD4 = some .unsupportedC5 ∧
    decodeTableWord 64 0x01C60102030428D4 = some .unsupportedC6 ∧
    decodeTableWord 64 0x01C7010203041514 = some .unsupportedC7 ∧
    decodeTableWord 64 0x01C8010203044115 = some .unsupportedC8 ∧
    decodeTableWord 64 0x01C9010203047CD5 = some .unsupportedC9 ∧
    decodeTableWord 64 0x01CA0102030438D5 = some .unsupportedCA ∧
    decodeTableWord 64 0x01CB010203040515 = some .unsupportedCB ∧
    decodeTableWord 64 0x01CC01020304B0D5 = some .unsupportedCC ∧
    decodeTableWord 64 0x01CD010203048D15 = some .unsupportedCD ∧
    decodeTableWord 64 0x01CE01020304C915 = some .unsupportedCE ∧
    decodeTableWord 64 0x01CF01020304F4D5 = some .unsupportedCF := by decide

theorem test_decode_row_D :
    decodeTableWord 64 0x01D0010203046117 = some .unsupportedD0 ∧
    decodeTableWord 64 0x01D1010203045CD7 = some .unsupportedD1 ∧
    decodeTableWord 64 0x01D20102030418D7 = some .unsupportedD2 ∧
    decodeTableWord 64 0x01D3010203042517 = some .unsupportedD3 ∧
    decodeTableWord 64 0x01D40102030490D7 = some .unsupportedD4 ∧
    decodeTableWord 64 0x01D501020304AD17 = some .unsupportedD5 ∧
    decodeTableWord 64 0x01D601020304E917 = some .unsupportedD6 ∧
    decodeTableWord 64 0x01D701020304D4D7 = some .unsupportedD7 ∧
    decodeTableWord 64 0x01D80102030480D6 = some .unsupportedD8 ∧
    decodeTableWord 64 0x01D901020304BD16 = some .unsupportedD9 ∧
    decodeTableWord 64 0x01DA01020304F916 = some .unsupportedDA ∧
    decodeTableWord 64 0x01DB01020304C4D6 = some .unsupportedDB ∧
    decodeTableWord 64 0x01DC010203047116 = some .unsupportedDC ∧
    decodeTableWord 64 0x01DD010203044CD6 = some .unsupportedDD ∧
    decodeTableWord 64 0x01DE0102030408D6 = some .unsupportedDE ∧
    decodeTableWord 64 0x01DF010203043516 = some .unsupportedDF := by decide

theorem test_decode_row_E :
    decodeTableWord 64 0x01E0010203042113 = some .unsupportedE0 ∧
    decodeTableWord 64 0x01E1010203041CD3 = some .unsupportedE1 ∧
    decodeTableWord 64 0x01E20102030458D3 = some .unsupportedE2 ∧
    decodeTableWord 64 0x01E3010203046513 = some .unsupportedE3 ∧
    decodeTableWord 64 0x01E401020304D0D3 = some .unsupportedE4 ∧
    decodeTableWord 64 0x01E501020304ED13 = some .unsupportedE5 ∧
    decodeTableWord 64 0x01E601020304A913 = some .unsupportedE6 ∧
    decodeTableWord 64 0x01E70102030494D3 = some .unsupportedE7 ∧
    decodeTableWord 64 0x01E801020304C0D2 = some .unsupportedE8 ∧
    decodeTableWord 64 0x01E901020304FD12 = some .unsupportedE9 ∧
    decodeTableWord 64 0x01EA01020304B912 = some .unsupportedEA ∧
    decodeTableWord 64 0x01EB0102030484D2 = some .unsupportedEB ∧
    decodeTableWord 64 0x01EC010203043112 = some .unsupportedEC ∧
    decodeTableWord 64 0x01ED010203040CD2 = some .unsupportedED ∧
    decodeTableWord 64 0x01EE0102030448D2 = some .unsupportedEE ∧
    decodeTableWord 64 0x01EF010203047512 = some .unsupportedEF := by decide

theorem test_decode_row_F :
    decodeTableWord 64 0x01F001020304E0D0 = some .unsupportedF0 ∧
    decodeTableWord 64 0x01F101020304DD10 = some .unsupportedF1 ∧
    decodeTableWord 64 0x01F2010203049910 = some .unsupportedF2 ∧
    decodeTableWord 64 0x01F301020304A4D0 = some .unsupportedF3 ∧
    decodeTableWord 64 0x01F4010203041110 = some .unsupportedF4 ∧
    decodeTableWord 64 0x01F5010203042CD0 = some .unsupportedF5 ∧
    decodeTableWord 64 0x01F60102030468D0 = some .unsupportedF6 ∧
    decodeTableWord 64 0x01F7010203045510 = some .unsupportedF7 ∧
    decodeTableWord 64 0x01F8010203040111 = some .unsupportedF8 ∧
    decodeTableWord 64 0x01F9010203043CD1 = some .unsupportedF9 ∧
    decodeTableWord 64 0x01FA0102030478D1 = some .unsupportedFA ∧
    decodeTableWord 64 0x01FB010203044511 = some .unsupportedFB ∧
    decodeTableWord 64 0x01FC01020304F0D1 = some .unsupportedFC ∧
    decodeTableWord 64 0x01FD01020304CD11 = some .unsupportedFD ∧
    decodeTableWord 64 0x01FE010203048911 = some .unsupportedFE ∧
    decodeTableWord 64 0x01FF01020304B4D1 = some .unsupportedFF := by decide
/-- `READ 1, 0, 2` written out bit by bit: address 1, code 3, start 0, count 2, CRC bytes C4 0B (V-ENC-1). -/
theorem test_decode_read_bits :
    decode [0b00000001, 0b00000011, 0b00000000, 0b00000000, 0b00000000, 0b00000010, 0b11000100, 0b00001011] =
      .ok (⟨1, .read 0 2, 0, 0, 0x0BC4⟩, []) := by decide

/-- `WRITE 1, 2, 0xABCD` written out bit by bit (V-ENC-1), and a byte that follows it. -/
theorem test_decode_write_bits :
    decode [0b00000001, 0b00000110, 0b00000000, 0b00000010, 0b10101011, 0b11001101, 0b10010110, 0b10101111, 0x55] =
      .ok (⟨1, .write 2 0xABCD, 0, 0, 0xAF96⟩, [0x55]) := by decide

/-- Seven bytes are no request (R75). -/
theorem test_decode_seven_bytes : decode [1, 3, 0, 0, 0, 2, 0xC4] = .error .frameIncomplete := by decide

/-- The mnemonic forms give the bytes of V-ENC-1. -/
theorem test_encode_requests :
    readBytes 1 0 2 = [0x01, 0x03, 0x00, 0x00, 0x00, 0x02, 0xC4, 0x0B] ∧
      writeBytes 1 2 0xABCD = [0x01, 0x06, 0x00, 0x02, 0xAB, 0xCD, 0x96, 0xAF] ∧
      funcBytes 1 0xFF 0x0102 0x0304 = [0x01, 0xFF, 0x01, 0x02, 0x03, 0x04, 0xB4, 0xD1] := by decide +kernel

/-! ### Well-formedness: an ill-formed term for each check -/

/-- `READ 1, 0, 2`. -/
def goodRead : Request := ⟨1, .read 0 2, 0, 0, 0x0BC4⟩

/-- `WRITE 1, 3, 0xFFFF` (V-WR-7): the last register of `T4`, the largest value. -/
def goodWrite : Request := ⟨1, .write 3 0xFFFF, 0, 0, 0x7A78⟩

/-- `FUNC 1, 0x83, 0, 1` (V-UN-9). -/
def goodUnsupported : Request := ⟨1, .unsupported83, 0, 1, 0xD485⟩

theorem test_wf_good : goodRead.wf = true ∧ goodWrite.wf = true ∧ goodUnsupported.wf = true := by decide +kernel

theorem test_wf_refuses_wrong_crc : ({ goodRead with crc := 0xC40B } : Request).wf = false := by decide +kernel

theorem test_wf_refuses_unread_first : ({ goodRead with unread1 := 1 } : Request).wf = false := by decide +kernel

theorem test_wf_refuses_unread_second : ({ goodWrite with unread2 := 1 } : Request).wf = false := by decide +kernel

/-! ### The CRC engine (V-CRC-1, V-CRC-2) -/

theorem test_crc_bit : crcBit 0x8001 = 0xE001 ∧ crcBit 0xFFFE = 0x7FFF := by decide

theorem test_crc_byte : crcByte 0x807E 0x03 = 0x2140 ∧ crcByte 0x1234 0x34 = 0x0012 := by decide

/-! ### Single requests on the start state of the vectors -/

/-- The registers as the dispatcher sees them in the vectors of spec/96_test_vectors_engine.md: `[10, 20, 30, 40]`. -/
def q0 : State := { State.reset with x := [10, 20, 30, 40] }

/-- The bytes a request puts into the response buffer, and its event with the information. -/
def answer (r : Result) : Option (List Byte × Event × BitVec 2) :=
  match r with
  | .next s => some (s.resp, s.out, s.outInfo)
  | _ => none

/-- The registers after a request. -/
def registers (r : Result) : Option (List Word) :=
  match r with
  | .next s => some s.x
  | _ => none

/-- A step answers a next state. -/
def goesOn (r : Result) : Bool := r matches .next _

/-- The state meets the invariant and a step goes on from it. -/
def good (s : State) : Bool := decide (Inv s) && goesOn (step s)

/-- V-RD-1 and V-RD-4: two registers; none, at `start = REGISTER_COUNT`. -/
theorem test_read_accepted :
    answer (exec (.read 0 2) q0) = some ([0x01, 0x03, 0x04, 0x00, 0x0A, 0x00, 0x14, 0xDA, 0x3E], .readOk, 0b00) ∧
      answer (exec (.read 4 0) q0) = some ([0x01, 0x03, 0x00, 0x20, 0xF0], .readOk, 0b00) := by decide +kernel

/-- V-RD-21 and V-RD-16: a sum that a 16-bit adder would wrap; both causes. -/
theorem test_read_rejected :
    answer (exec (.read 0xFFFD 3) q0) = some ([], .outOfRangeRead, 0b01) ∧
      answer (exec (.read 0 126) q0) = some ([], .outOfRangeRead, 0b11) := by decide

/-- V-WR-7: the last register, the largest value; the request is echoed. -/
theorem test_write_in_range :
    registers (exec (.write 3 0xFFFF) { q0 with req := encode goodWrite }) = some [10, 20, 30, 0xFFFF] ∧
      answer (exec (.write 3 0xFFFF) { q0 with req := encode goodWrite }) =
        some ([0x01, 0x06, 0x00, 0x03, 0xFF, 0xFF, 0x78, 0x7A], .writeOk, 0b00) := by decide

/-- V-WR-12: address 0x0100 is not reduced to 0. -/
theorem test_write_out_of_range :
    registers (exec (.write 0x0100 1) q0) = some [10, 20, 30, 40] ∧
      (answer (exec (.write 0x0100 1) q0)).map Prod.snd = some (.writeOutOfRangeAck, 0b00) := by decide

/-- V-UN-9: 0x03 with bit 7 set is an unsupported code. -/
theorem test_unsupported :
    answer (exec .unsupported83 q0) = some ([], .unsupportedFunction, 0b00) ∧
      registers (exec .unsupported83 q0) = some [10, 20, 30, 40] := by decide

/-- The first instruction after reset can be any: a word of V-ENC-1 placed for the next step. -/
theorem test_fetch_after_reset :
    (step (State.reset.withFetchWord 64 0x010600000001480A) matches .next _) ∧
      registers (step (State.reset.withFetchWord 64 0x010600000001480A)) = some [1, 0, 0, 0] := by decide

/-! ### Single ticks -/

/-- `T4` with the given registers, buffered bytes and draws, idle. -/
def idleWith (x : List Word) (rxq : List Byte) (draws : List Word) : State :=
  { State.reset with x := x, rxq := rxq, rnd := { queue := draws, taken := 0 } }

/-- What a vector row shows. -/
structure Shown where
  /-- Bytes sent. -/
  tx : List Byte
  /-- The event and its information. -/
  out : Event × BitVec 2
  /-- Registers after the tick. -/
  x : List Word
  /-- The output. -/
  dout : Bool
  /-- Bytes left in the receive queue. -/
  rxq : List Byte
  deriving DecidableEq, Repr

def shown (r : Result) : Option Shown :=
  match r with
  | .next s => some ⟨s.txq, (s.outcome, s.oorInfo), s.x, s.dout, s.rxq⟩
  | _ => none

/-- V-LOOP-2: the second request is dropped unexamined. -/
theorem test_tick_read :
    shown (tick (idleWith [10, 0, 0, 0] (readBytes 1 0 2 ++ writeBytes 1 1 99) [20, 30, 40])) =
      some ⟨[0x01, 0x03, 0x04, 0x00, 0x0A, 0x00, 0x14, 0xDA, 0x3E], (.readOk, 0), [10, 20, 30, 40], false, []⟩ := by
  decide +kernel

/-- V-WR-2: value 1 in the bound register, the output is active in the same tick. -/
theorem test_tick_write :
    shown (tick (idleWith [10, 0, 0, 0] (writeBytes 1 0 1) [20, 30, 40])) =
      some ⟨[0x01, 0x06, 0x00, 0x00, 0x00, 0x01, 0x48, 0x0A], (.writeOk, 0), [1, 20, 30, 40], true, []⟩ := by
  decide +kernel

/-- V-DEC-3: seven bytes stay where they are. -/
theorem test_tick_incomplete :
    shown (tick (idleWith [10, 0, 0, 0] [1, 3, 0, 0, 0, 2, 0xC4] [20, 30, 40])) =
      some ⟨[], (.frameIncomplete, 0), [10, 20, 30, 40], false, [1, 3, 0, 0, 0, 2, 0xC4]⟩ := by decide

/-- V-DEC-6 and V-DEC-9: the address test comes before the CRC test, that before the function code. -/
theorem test_tick_order_of_checks :
    (shown (tick (idleWith [10, 0, 0, 0] [2, 3, 0, 0, 0, 2, 0, 0] [20, 30, 40]))).map (·.out.1) =
        some .addressMismatch ∧
      (shown (tick (idleWith [10, 0, 0, 0] [1, 4, 0, 0, 0, 1, 0, 0] [20, 30, 40]))).map (·.out.1) =
        some .crcMismatch := by
  decide +kernel

/-- Program P2, from `SETLED 2` on: the setter acts at the next tick, an index out of range is ignored. -/
theorem test_script_setters :
    shown (runScript [.setLed 2, .setLed 4, .tick [3, 4, 5]] (idleWith [2, 8, 1, 9] [] [])) =
      some ⟨[], (.frameIncomplete, 0), [3, 4, 1, 5], true, []⟩ := by decide

/-! ### Witnesses: states and operands that meet the hypotheses of the obligations -/

/-- A request frame from its bytes. -/
def frame (r : Request) : Frame := encode r

/-- The state in the middle of a tick: phase `p`, the given request in the buffer, the response not built. -/
def inPhase (p : Phase) (r : Request) : State :=
  { State.reset with x := [10, 20, 30, 40], pc := p, req := encode r, rnd := { queue := [20, 30, 40], taken := 0 } }

/-- A cycle's inputs: bytes arrive, both setters strobe. -/
def busyPorts (led : Word) : PortIn :=
  { rst := false, tick := true, cfgAddr := some 0x11, cfgLed := some led, rx := [0x55] }

/-- A cycle with `rst`, `tick` and both setters. -/
def resetPorts : PortIn := { busyPorts 3 with rst := true }

/-- DecodeUndoesEncode, with the smallest and largest operands of each family. -/
theorem test_witness_decode_undoes_encode :
    ∀ r ∈ [(⟨0x00, .read 0x0000 0x0000, 0, 0, 0x1B44⟩ : Request), ⟨0xFF, .read 0xFFFF 0xFFFF, 0, 0, 0x8051⟩,
        ⟨0x00, .write 0x0000 0x0000, 0, 0, 0x1B88⟩, ⟨0xFF, .write 0xFFFF 0xFFFF, 0, 0, 0x809D⟩,
        ⟨0x00, .unsupported00, 0x0000, 0x0000, 0x1B00⟩, ⟨0xFF, .unsupportedFF, 0xFFFF, 0xFFFF, 0x9401⟩],
      r.wf = true := by
  decide +kernel

/-- FunctionByteAloneSelects: two frames that agree in byte 1 only. -/
theorem test_witness_function_byte :
    (frame goodRead).func = (⟨0x02, 0x03, 0xFF, 0xFF, 0xFF, 0xFF, 0, 0⟩ : Frame).func ∧
      frame goodRead ≠ ⟨0x02, 0x03, 0xFF, 0xFF, 0xFF, 0xFF, 0, 0⟩ := by decide

/-- OperandsAreBigEndian: a frame for each clause, the third with both neighbours of the supported codes. -/
theorem test_witness_operands :
    (frame goodRead).func = 0x03 ∧ (frame goodWrite).func = 0x06 ∧
      (frame goodUnsupported).func ≠ 0x03 ∧ (frame goodUnsupported).func ≠ 0x06 ∧ (0x02 : Byte) ≠ 0x03 ∧
      (0x04 : Byte) ≠ 0x03 ∧ (0x05 : Byte) ≠ 0x06 ∧ (0x07 : Byte) ≠ 0x06 := by decide

/-- DecoderTakesEightBytes: seven and eight bytes. -/
theorem test_witness_eight_bytes :
    [1, 3, 0, 0, 0, 2, 0xC4].length < 8 ∧ 8 ≤ (frameBytes (frame goodRead)).length := by decide

/-- TableWordFields: the extreme words of each code. -/
theorem test_witness_table_word :
    0xFFFFFFFFFFFFFFFF < 2 ^ 64 ∧ 0xFF03FFFFFFFFFFFF / 2 ^ 48 % 256 = 3 ∧ 0x0003000000000000 / 2 ^ 48 % 256 = 3 ∧
      0xFF06FFFFFFFFFFFF / 2 ^ 48 % 256 = 6 ∧ 0x0006000000000000 / 2 ^ 48 % 256 = 6 := by decide

/-- CrcRoundBitByBit: a bit of each kind. -/
theorem test_witness_crc_bits : ∀ j ∈ [0, 1, 12, 13, 14, 15], j < 16 := by decide

/-- CrcVerifyComparesTheTwoBytesAfter: one byte short. -/
theorem test_witness_crc_short : [1, 3, 0, 0, 0, 2, 0xC4].length < 6 + 2 := by decide

/-- CrcDetectsEverySingleBitFlip: the first and the last bit that the CRC covers. -/
theorem test_witness_bit_flip :
    crcVerify (frameBytes (frame goodRead)) 6 = some true ∧
      frameBytes { frame goodRead with addr := 0x00 } = flipBit (frameBytes (frame goodRead)) 0 0 ∧
      frameBytes { frame goodRead with p2Lo := 0x82 } = flipBit (frameBytes (frame goodRead)) 5 7 := by decide +kernel

/-- StoreReadIsBoundsChecked, StoreWriteChangesOneRegister: the last register and the first that does not exist. -/
theorem test_witness_store : Memory.wf q0 ∧ 3 < q0.par.registerCount ∧ q0.par.registerCount ≤ 4 ∧ 2 ≠ 3 := by decide

/-- BlockReadIsAllOrNothing: up to the last register; one too far. -/
theorem test_witness_block :
    Memory.wf q0 ∧ (∀ j, j < 2 → 2 + j < q0.par.registerCount) ∧ 1 < 2 ∧ q0.par.registerCount ≤ 3 + 1 ∧
      4 + 0 ≤ q0.par.registerCount := by decide

/-- ReadAcceptedBuildsResponse: the whole store; no register, one past the last; the cap itself on 200 registers. -/
theorem test_witness_read_accepted :
    Memory.wf q0 ∧ (0 : Word).toNat + (4 : Word).toNat ≤ q0.par.registerCount ∧
      (4 : Word).toNat + (0 : Word).toNat ≤ q0.par.registerCount ∧ (4 : Word).toNat ≤ q0.par.maxReadCount ∧
      (75 : Word).toNat + (125 : Word).toNat ≤ Params.T200.registerCount ∧
      (125 : Word).toNat ≤ Params.T200.maxReadCount := by decide +kernel

/-- ReadAcceptanceTest: each cause alone and both (V-RD-12, V-LONG-3, V-RD-16). -/
theorem test_witness_read_rejected :
    q0.par.registerCount < (3 : Word).toNat + (2 : Word).toNat ∧
      Params.T200.maxReadCount < (126 : Word).toNat ∧ ¬ Params.T200.registerCount < (0 : Word).toNat + (126 : Word).toNat ∧
      q0.par.maxReadCount < (126 : Word).toNat := by decide

/-- ReadResponseVerifies, and RequestFrame for a Read. -/
theorem test_witness_read_response :
    q0.par.wf ∧ ∃ t, exec (.read 0 4) q0 = .next t ∧ t.out = .readOk := ⟨by decide, _, rfl, rfl⟩

/-- WriteStoresIfInRangeAndEchoes, WriteOutOfRangeOnlyEchoes. -/
theorem test_witness_write :
    Memory.wf q0 ∧ (3 : Word).toNat < q0.par.registerCount ∧ q0.par.registerCount ≤ (4 : Word).toNat ∧
      q0.par.registerCount ≤ (0xFFFF : Word).toNat ∧ (inPhase .execWrite goodWrite).req.func = 0x06 := by decide

/-- RequestFrame for a Write and an unsupported code. -/
theorem test_witness_request_frame :
    goesOn (exec (.write 3 0xFFFF) q0) ∧ goesOn (exec (.write 4 7) q0) ∧ goesOn (exec .unsupported00 q0) := by decide

/-- UnsupportedCodesDoNothing: the extreme codes and the neighbours of the supported ones. -/
theorem test_witness_unsupported :
    ∀ i ∈ [Instr.unsupported00, .unsupported02, .unsupported04, .unsupported05, .unsupported07, .unsupportedFF],
      i.func ≠ 0x03 ∧ i.func ≠ 0x06 := by decide

/-- StepRunsDecodedRequest: each family, with no input and with a cycle's inputs. -/
theorem test_witness_step_runs :
    ∀ r ∈ [goodRead, goodWrite, goodUnsupported],
      r.wf = true ∧ decode (frameBytes (inPhase .dispatch r).req) = .ok (r, []) ∧
        (inPhase (executionPhase r.instr.func) r).pc = executionPhase (inPhase .dispatch r).req.func ∧
        (inPhase .dispatch r).env = [] ∧ (portsNow { inPhase .dispatch r with env := [busyPorts 3] }).rst = false ∧
        hasRoom { inPhase .dispatch r with env := [busyPorts 3] } [0x55] = true := by decide +kernel

/-- FetchWordRunsNext. -/
theorem test_witness_fetch :
    decodeTableWord 64 0x010600000001480A = some (.write 0 1) ∧ State.reset.env = [] := by decide

/-- PhaseTransitionsFollowTheTable: a reset cycle, `IDLE` with and without `tick`, `REFRESH`. -/
theorem test_witness_phases_start :
    ∀ s ∈ [{ inPhase .gate goodRead with env := [resetPorts] }, inPhase .idle goodRead,
        { inPhase .idle goodRead with env := [busyPorts 3] }, inPhase .refresh goodRead], good s := by
  decide

/-- PhaseTransitionsFollowTheTable: `GATE` with seven and with eight bytes, `CONSUME` at its first and last byte. -/
theorem test_witness_phases_frame :
    (∀ n ∈ [7, 8], good { inPhase .gate goodRead with rxq := List.replicate n 1 }) ∧
      ∀ n ∈ [0, 7], good { inPhase .consume goodRead with k := n, rxq := List.replicate (8 - n) 1 } := by decide

/-- PhaseTransitionsFollowTheTable: both outcomes of each check. -/
theorem test_witness_phases_checks :
    (∀ s ∈ [inPhase .checkAddr goodRead, inPhase .checkAddr { goodRead with addr := 2 }, inPhase .checkCrc goodRead,
        inPhase .checkCrc { goodRead with crc := 0xC40B }], good s) ∧
      crcVerify (frameBytes (inPhase .checkCrc goodRead).req) 6 = some true ∧
      crcVerify (frameBytes (inPhase .checkCrc { goodRead with crc := 0xC40B }).req) 6 = some false := by decide +kernel

/-- PhaseTransitionsFollowTheTable: `DISPATCH` of each family, and both outcomes of the two executed requests
(V-RD-12: one register too far; V-WR-9: the first address out of range). -/
theorem test_witness_phases_requests :
    ∀ s ∈ [inPhase .dispatch goodRead, inPhase .dispatch goodWrite, inPhase .dispatch goodUnsupported,
        inPhase .execRead goodRead, inPhase .execRead ⟨1, .read 3 2, 0, 0, 0x0B34⟩,
        inPhase .execWrite goodWrite, inPhase .execWrite ⟨1, .write 4 7, 0, 0, 0xC989⟩],
      good s := by decide +kernel

/-- A response half sent: byte `k` of `n`. -/
def emitting (k n : Nat) : State := { inPhase .emit goodRead with resp := List.replicate n 7, k := k, out := .readOk }

/-- Draining, with the given bytes left. -/
def draining (rxq : List Byte) : State := { inPhase .drain goodRead with rxq := rxq, out := .crcMismatch }

/-- In `OUTPUT`, with the given value in the bound register. -/
def projecting (v : Word) : State := { inPhase .output goodRead with x := [v, 20, 30, 40], out := .readOk }

/-- PhaseTransitionsFollowTheTable: a byte before the last and the last, an empty and a filled queue, `OUTPUT`. -/
theorem test_witness_phases_end :
    ∀ s ∈ [emitting 3 5, emitting 4 5, draining [], draining [0x55], projecting 1], good s := by decide

/-- About to consume the given frame, with the given bytes queued behind it. -/
def consuming (f : Frame) (rest : List Byte) : State :=
  { inPhase .consume goodRead with rxq := frameBytes f ++ rest }

/-- ConsumeTakesTheEightOldestBytes, for a frame with a byte behind it and for one with none. -/
theorem test_witness_consume :
    (consuming (frame goodRead) [0x55]).pc = .consume ∧ (consuming (frame goodRead) [0x55]).k = 0 ∧
      (consuming (frame goodRead) [0x55]).env = [] ∧
      (consuming (frame goodRead) [0x55]).rxq = frameBytes (frame goodRead) ++ [0x55] ∧
      (consuming (frame goodRead) []).rxq = frameBytes (frame goodRead) ++ [] := ⟨rfl, rfl, rfl, rfl, rfl⟩

/-- EmitHandsOverTheWholeResponse, DrainEmptiesTheQueue. -/
theorem test_witness_runs :
    (emitting 0 5).pc = .emit ∧ (emitting 0 5).k = 0 ∧ (emitting 0 5).env = [] ∧ (emitting 0 5).resp ≠ [] ∧
      (draining [0x55, 0x66]).pc = .drain ∧ (draining [0x55, 0x66]).env = [] := by decide

/-- RefreshDrawsInAscendingOrder, RefreshedRegistersLieInRange, with draws at both ends of the range. -/
theorem test_witness_refresh :
    (inPhase .refresh goodRead).env = [] ∧ Memory.wf (inPhase .refresh goodRead) ∧
      (inPhase .refresh goodRead).shadow.ledIndex < (inPhase .refresh goodRead).par.registerCount ∧
      (inPhase .refresh goodRead).rnd.queue = [20, 30, 40] ∧ goesOn (step (inPhase .refresh goodRead)) ∧
      1 ≤ (1 : Word).toNat ∧ (9999 : Word).toNat < 10000 := by decide

/-- TelemetryValuesDoNotLast: registers that differ beside the bound one. -/
theorem test_witness_telemetry :
    ([10, 1, 2, 3] : List Word)[(inPhase .refresh goodRead).shadow.ledIndex]? =
        (inPhase .refresh goodRead).x[(inPhase .refresh goodRead).shadow.ledIndex]? ∧
      ([10, 1, 2, 3] : List Word).length = (inPhase .refresh goodRead).x.length := ⟨rfl, rfl⟩

/-- OutputProjectsAndLatches: the one active value and one that differs from it in bit 15 only. -/
theorem test_witness_output :
    (projecting 1).env = [] ∧ (projecting 1).x[(projecting 1).cfg.ledIndex]? = some 1 ∧
      (projecting 0x8001).x[(projecting 0x8001).cfg.ledIndex]? = some 0x8001 := ⟨rfl, rfl, rfl⟩

/-- ResetOverridesEverything, in the middle of a tick. -/
theorem test_witness_reset :
    (portsNow { emitting 3 5 with env := [resetPorts] }).rst = true ∧ hasRoom (emitting 3 5) resetPorts.rx = true := by
  decide

/-- SettersActAtTheNextTick: the last index that exists, the first that does not, none; in `REFRESH` and elsewhere. -/
theorem test_witness_setters :
    ∀ s ∈ [{ inPhase .refresh goodRead with env := [busyPorts 3] }, { draining [] with env := [busyPorts 4] },
        draining []],
      goesOn (step s) ∧ (portsNow s).rst = false := by decide

/-- TickIsIgnoredWhileBusy, IdleChangesOnlyPendingCopies. -/
theorem test_witness_idle :
    (draining []).pc ≠ .idle ∧ (portsNow { q0 with env := [{ busyPorts 3 with tick := false }] }).tick = false ∧
      goesOn (step { q0 with env := [{ busyPorts 3 with tick := false }] }) := by decide

/-- RegisterWritersAreComplete: a register changes in `REFRESH` and by a Write. -/
theorem test_witness_register_writers :
    registers (step (inPhase .refresh goodRead)) = some [10, 20, 30, 40] ∧
      registers (step { inPhase .refresh goodRead with x := [10, 0, 0, 0] }) = some [10, 20, 30, 40] ∧
      registers (step (inPhase .execWrite goodWrite)) = some [10, 20, 30, 0xFFFF] := by decide

/-- ResetMeetsInvariant: the smallest and the largest instance R9 allows. -/
theorem test_witness_params :
    ({ Params.T4 with registerCount := 1, maxReadCount := 0, rxCap := some 8 } : Params).wf ∧
      ({ Params.T4 with registerCount := 65536, maxReadCount := 127, ledIndexReset := 65535 } : Params).wf := by decide

/-- A receive queue of capacity 8 that is full, and one more byte arriving. -/
def fullQueue : State :=
  { q0 with par := { Params.T4 with rxCap := some 8 }, rxq := List.replicate 8 1, env := [busyPorts 3] }

/-- StepKeepsInvariant, NoInputHaltsTheEngine and the other statements about any step: in reset, and a full queue. -/
theorem test_witness_step :
    Inv State.reset ∧ goesOn (step State.reset) ∧
      Inv fullQueue ∧ step fullQueue = .refused .rxOverflow :=
  ⟨by decide, by decide, by decide, rfl⟩

/-- RunningTickReachesIdle: the longest way, from `REFRESH`. -/
theorem test_witness_running :
    good { inPhase .refresh goodRead with rxq := encodeBytes goodRead ++ [0x55] } ∧
      (inPhase .refresh goodRead).env = [] ∧ (inPhase .refresh goodRead).pc ≠ .idle := by decide

/-- PhasesRefineTheWholeTick and the statements about whole ticks: nothing, seven bytes, a foreign and a corrupt frame, a
Read, a Write of the last register, an unsupported code. -/
theorem test_witness_ticks :
    (∀ b ∈ [[], List.replicate 7 1, encodeBytes { goodRead with addr := 2 }, encodeBytes { goodRead with crc := 0 },
        encodeBytes goodRead ++ [0x55], encodeBytes goodWrite, encodeBytes goodUnsupported], good (idleWith [10, 0, 0, 0] b [20, 30, 40])) ∧
      (frame { goodRead with addr := 2 }).addr ≠ q0.shadow.slaveAddr ∧ (frame goodRead).addr = q0.shadow.slaveAddr ∧
      crcVerify (frameBytes (frame { goodRead with crc := 0 })) 6 = some false ∧
      (0 : Word).toNat + (2 : Word).toNat ≤ q0.par.registerCount ∧ (3 : Word).toNat < q0.par.registerCount := by
  decide +kernel

/-- The event a whole tick ends with, on the start state of the vectors. -/
def outcomeOf (bytes : List Byte) : Option (Event × BitVec 2) :=
  (shown (tick (idleWith [10, 0, 0, 0] bytes [20, 30, 40]))).map (·.out)

/-- EveryTickEndsWithTheFirstEventThatApplies: the executed branches at their boundaries (V-RD-4, V-RD-12, V-WR-7,
V-WR-9, V-UN-9). -/
theorem test_witness_tick_branches :
    outcomeOf (encodeBytes ⟨1, .read 4 0, 0, 0, 0x0B04⟩) = some (.readOk, 0b00) ∧
      outcomeOf (encodeBytes ⟨1, .read 3 2, 0, 0, 0x0B34⟩) = some (.outOfRangeRead, 0b01) ∧
      outcomeOf (encodeBytes goodWrite) = some (.writeOk, 0b00) ∧
      outcomeOf (encodeBytes ⟨1, .write 4 7, 0, 0, 0xC989⟩) = some (.writeOutOfRangeAck, 0b00) ∧
      outcomeOf (encodeBytes goodUnsupported) = some (.unsupportedFunction, 0b00) := by decide +kernel

/-- In `REFRESH` with seven bytes buffered, and one byte arriving that fills a receive queue of capacity 8. -/
def oneByteToCome : State :=
  { inPhase .refresh goodRead with
    par := { Params.T4 with rxCap := some 8 }, rxq := List.replicate 7 1, env := [busyPorts 3] }

/-- TickEndsIfFinitelyManyBytesArrive, with the receive queue filled to its capacity. -/
theorem test_witness_finite_arrivals :
    good oneByteToCome ∧ oneByteToCome.pc ≠ .idle ∧ (∀ p ∈ oneByteToCome.env, p.rst = false) ∧
      oneByteToCome.par.rxCap = some 8 ∧ oneByteToCome.rxq.length + arriving oneByteToCome = 8 := by decide

/-- DrainLastsWhileBytesArrive, from an empty queue. -/
theorem test_witness_drain_lasts :
    (draining []).pc = .drain ∧ (draining []).par.rxCap = none ∧
      (draining []).env = List.replicate 0 { PortIn.idle with rx := [0x55] } := by decide

end Sys2Proof.Tests
end

section
/-! Encoding: what byte 1 and the CRC bytes of a frame decode to (spec/30_encoding.md R64, R66). -/

namespace Sys2Proof

open Machine

/-- R64: the function code of a decoded operation is byte 1 of its frame, whatever the other seven bytes are. -/
theorem decodeInstr_func (f : Frame) : (decodeInstr f).func = f.func := by
  rw [decodeInstr_eq]
  exact (opcode_spec _ _ _).1

/-- R64, R78: byte 1 alone decides that a frame is a Read; the four parameter bytes are then its operands. -/
theorem decodeInstr_isRead_iff (f : Frame) : (∃ start count, decodeInstr f = .read start count) ↔ f.func = 3#8 := by
  constructor
  · rintro ⟨start, count, h⟩
    rw [← decodeInstr_func, h, func_read]
  · intro h
    exact ⟨join f.p1Hi f.p1Lo, join f.p2Hi f.p2Lo, by rw [decodeInstr_eq, h, opcode_read]⟩

/-- R64, R78: byte 1 alone decides that a frame is a Write; the four parameter bytes are then its operands. -/
theorem decodeInstr_isWrite_iff (f : Frame) : (∃ reg value, decodeInstr f = .write reg value) ↔ f.func = 6#8 := by
  constructor
  · rintro ⟨reg, value, h⟩
    rw [← decodeInstr_func, h, func_write]
  · intro h
    exact ⟨join f.p1Hi f.p1Lo, join f.p2Hi f.p2Lo, by rw [decodeInstr_eq, h, opcode_write]⟩

/-- R66: the CRC word of a decoded frame has byte 7 above byte 6. -/
@[simp] theorem decodeFrame_crc (f : Frame) : (decodeFrame f).crc = join f.crcHi f.crcLo := rfl

/-- Settles O3: the decoded code is byte 1 for every frame, so frames with the same byte 1 share it. -/
theorem functionByteAloneSelects : Obligations.FunctionByteAloneSelects := by
  constructor
  · intro f g h
    rw [decodeInstr_func, decodeInstr_func, h]
  · intro f
    exact ⟨decodeInstr_func f, (decodeInstr_isRead_iff f).symm, (decodeInstr_isWrite_iff f).symm⟩

/-- Settles O5: the CRC word joins bytes 7 and 6, and a joined word is its high byte times 256 plus its low byte. -/
theorem receivedCrcIsLittleEndian : Obligations.ReceivedCrcIsLittleEndian := by
  intro f
  rw [decodeFrame_crc, join_toNat]

end Sys2Proof
end

section
/-! CRC engine: the validator at any length, and why no step of the generator loses a difference
(spec/40_crc_engine.md R86, R90). -/

namespace Sys2Proof.Machine

/-! ### The validator -/

/-- R86: the validator compares the CRC of the message with the word in the two bytes after it, low byte first. -/
theorem crcVerify_append (b : List Byte) (l h : Byte) (rest : List Byte) :
    crcVerify (b ++ l :: h :: rest) b.length = some (crc16 b == join h l) := by
  have hlo : (b ++ l :: h :: rest)[b.length]? = some l := by simp
  have hhi : (b ++ l :: h :: rest)[b.length + 1]? = some h := by simp
  simp only [crcVerify, hlo, hhi, List.take_left]

/-- R86: the validator has no meaning exactly where the second byte after the message is missing. -/
theorem crcVerify_eq_none_iff (b : List Byte) (n : Nat) : crcVerify b n = none ↔ b.length < n + 2 := by
  by_cases hlen : b.length < n + 2
  · have hhi : b[n + 1]? = none := List.getElem?_eq_none (by omega)
    simp [crcVerify, hhi, hlen]
  · have hlo : b[n]? = some b[n] := List.getElem?_eq_getElem (by omega)
    have hhi : b[n + 1]? = some b[n + 1] := List.getElem?_eq_getElem (by omega)
    simp [crcVerify, hlo, hhi, hlen]

/-- A word is `(h, l)` exactly when its value is `h * 256 + l` (R11). -/
theorem eq_join_iff (w : Word) (h l : Byte) : w = join h l ↔ w.toNat = h.toNat * 256 + l.toNat := by
  rw [← BitVec.toNat_inj, join_toNat]

/-! ### The generator loses no difference: a round only sends zero to zero, and it respects XOR -/

/-- Bit 15 of the polynomial is set, and a shift clears bit 15: so the dropped bit can be read off the result. -/
theorem crcBit_getLsbD_15 (c : Word) : (crcBit c).getLsbD 15 = c.getLsbD 0 := by
  rw [crcBit_eq, BitVec.getLsbD_xor, BitVec.getLsbD_ushiftRight, BitVec.getLsbD_of_ge c (1 + 15) (by decide)]
  cases c.getLsbD 0 <;> rfl

/-- Only zero goes to zero: the low bit was clear, so the round was a plain shift. -/
theorem crcBit_eq_zero {c : Word} (h : crcBit c = 0#16) : c = 0#16 := by
  have hlow : c.getLsbD 0 = false := by rw [← crcBit_getLsbD_15, h]; rfl
  have hshift : c >>> 1 = 0#16 := by rw [← crcBit_of_even hlow, h]
  ext i hi
  cases i with
  | zero => simpa using hlow
  | succ i =>
    have hbit : (c >>> 1).getLsbD i = false := by rw [hshift]; simp
    simpa [BitVec.getLsbD_eq_getElem hi, Nat.add_comm 1 i] using hbit

theorem crcBit_injective : Function.Injective crcBit := by
  intro a b h
  have hdiff : crcBit (a ^^^ b) = 0#16 := by rw [crcBit_xor, h, BitVec.xor_self]
  exact BitVec.xor_eq_zero_iff.mp (crcBit_eq_zero hdiff)

theorem crcRounds_injective (n : Nat) : Function.Injective (crcRounds n) := by
  induction n with
  | zero => exact Function.injective_id
  | succ n ih => exact ih.comp crcBit_injective

/-- Distinct accumulators stay distinct over the same byte. -/
theorem crcByte_left_injective (d : Byte) : Function.Injective (crcByte · d) := by
  intro a b h
  exact (BitVec.xor_left_inj _).mp (crcRounds_injective 8 h)

/-- Distinct bytes move the same accumulator apart. -/
theorem crcByte_right_injective (c : Word) : Function.Injective (crcByte c) := by
  intro d e h
  have hwide : d.setWidth 16 = e.setWidth 16 := (BitVec.xor_right_inj c).mp (crcRounds_injective 8 h)
  simpa using congrArg (BitVec.setWidth 8) hwide

theorem foldl_crcByte_injective (q : List Byte) : Function.Injective (q.foldl crcByte) := by
  induction q with
  | nil => exact Function.injective_id
  | cons d q ih => exact ih.comp (crcByte_left_injective d)

/-- Messages that differ in one byte only, however they differ there, have different CRCs. -/
theorem crc16_append_cons_inj (p q : List Byte) (d e : Byte) : crc16 (p ++ d :: q) = crc16 (p ++ e :: q) ↔ d = e := by
  constructor
  · intro h
    rw [crc16_append, crc16_append, List.foldl_cons, List.foldl_cons] at h
    exact crcByte_right_injective _ (foldl_crcByte_injective q h)
  · rintro rfl; rfl

/-! ### Single bits -/

theorem xor_twoPow_ne (d : Byte) {n : Nat} (hn : n < 8) : d ^^^ BitVec.twoPow 8 n ≠ d := by
  intro h
  have hbit : (d ^^^ BitVec.twoPow 8 n).getLsbD n = d.getLsbD n := by rw [h]
  simp [hn] at hbit

/-- R90: inverting one bit of a message changes its CRC. -/
theorem crc16_flipBit_ne {b : List Byte} {j n : Nat} (hj : j < b.length) (hn : n < 8) :
    crc16 (flipBit b j n) ≠ crc16 b := by
  obtain ⟨p, d, q, hb, -, hflip⟩ := List.exists_of_modify (· ^^^ BitVec.twoPow 8 n) hj
  rw [flipBit, hflip, hb, Ne, crc16_append_cons_inj]
  exact xor_twoPow_ne d hn

/-- A bit in the first six bytes of a frame lies in what the CRC covers; the CRC bytes stay (R62). -/
theorem frameBytes_eq_flipBit {f g : Frame} {j n : Nat} (hj : j < 6) (h : frameBytes g = flipBit (frameBytes f) j n) :
    frameBody g = flipBit (frameBody f) j n ∧ g.crcLo = f.crcLo ∧ g.crcHi = f.crcHi := by
  have hbody : (frameBytes g).take 6 = flipBit ((frameBytes f).take 6) j n := by
    rw [h, flipBit, flipBit, List.take_modify]
  have htail : (frameBytes g).drop 6 = (frameBytes f).drop 6 := by rw [h, flipBit, List.drop_modify_of_lt _ j 6 _ hj]
  have hcrc : g.crcLo = f.crcLo ∧ g.crcHi = f.crcHi := by simpa [frameBytes] using htail
  exact ⟨hbody, hcrc⟩

end Sys2Proof.Machine

namespace Sys2Proof

open Machine

/-- Settles O11: the two parts are what the validator answers on a message with two bytes behind it, and where it
answers none. -/
theorem crcVerifyComparesTheTwoBytesAfter : Obligations.CrcVerifyComparesTheTwoBytesAfter := by
  constructor
  · intro b l h rest
    rw [crcVerify_append, ← decide_eq_decide.mpr (eq_join_iff (crc16 b) h l)]
    rfl
  · intro b n hlen
    exact (crcVerify_eq_none_iff b n).mpr hlen

/-- Settles O13: the flipped frame carries the old CRC bytes behind a body whose CRC has changed. -/
theorem crcDetectsEverySingleBitFlip : Obligations.CrcDetectsEverySingleBitFlip := by
  constructor
  · intro b j n hj hn
    exact crc16_flipBit_ne hj hn
  · intro f g j n hj hn hf hg
    obtain ⟨hbody, hlo, hhi⟩ := frameBytes_eq_flipBit hj hg
    have hcrc : crc16 (frameBody f) = join f.crcHi f.crcLo := by simpa [crcVerify_frame] using hf
    have hne : crc16 (flipBit (frameBody f) j n) ≠ crc16 (frameBody f) := crc16_flipBit_ne hj hn
    rw [crcVerify_frame, hbody, hlo, hhi, ← hcrc, beq_eq_false_iff_ne.mpr hne]

end Sys2Proof
end

section
/-! Register store: what a write of one register leaves to read, and when a block read answers
(spec/41_register_store.md R94 to R96). -/

namespace Sys2Proof.Machine

/-! ### Reads -/

/-- R38, R94: every address in range has a register. -/
theorem exists_getElem?_of_wf {s : State} (hs : Memory.wf s) {a : Nat} (h : a < s.par.registerCount) :
    ∃ v, s.x[a]? = some v :=
  ⟨_, List.getElem?_eq_getElem (hs ▸ h)⟩

@[simp] theorem memRead_zero (s : State) (a : Nat) : memRead s a 0 = some [] := rfl

theorem memRead_one (s : State) (a : Nat) : memRead s a 1 = (storeRead s a).map fun v => [v] := by
  cases h : storeRead s a <;> simp [memRead, h]

/-- R96: addresses that all exist end inside the store, unless there are none of them. -/
theorem exists_memRead_of_forall_lt {s : State} (hs : Memory.wf s) {a n : Nat}
    (h : ∀ j, j < n → a + j < s.par.registerCount) : ∃ vs, memRead s a n = some vs := by
  cases n with
  | zero => exact ⟨[], memRead_zero s a⟩
  | succ n => exact ⟨_, memRead_of_le hs (h n n.lt_succ_self)⟩

/-- R96: one address that does not exist fails the whole block: an answer would hold its register too. -/
theorem memRead_eq_none_of_ge {s : State} {a n j : Nat} (hj : j < n) (h : s.par.registerCount ≤ a + j) :
    memRead s a n = none := by
  refine Option.eq_none_iff_forall_ne_some.mpr fun vs hvs => ?_
  obtain ⟨hlen, hread⟩ := memRead_eq_some hvs
  have hnone : vs[j]? = none := by rw [← hread j hj, storeRead_of_ge h]
  have hshort : vs.length ≤ j := List.getElem?_eq_none_iff.mp hnone
  omega

/-! ### Writes -/

theorem storeWrite_of_lt {s : State} {a : Nat} (h : a < s.par.registerCount) (v : Word) :
    storeWrite s a v = some { s with x := s.x.set a v } := if_pos h

theorem storeWrite_of_ge {s : State} {a : Nat} (h : s.par.registerCount ≤ a) (v : Word) : storeWrite s a v = none :=
  if_neg (Nat.not_lt.mpr h)

theorem memWrite_eq_storeWrite (s : State) (a : Nat) (v : Word) : memWrite s a v = storeWrite s a v := rfl

/-- R95: after a write in range its own register holds the whole value, and every other one what it held. -/
theorem getElem?_set_of_wf {s : State} (hs : Memory.wf s) {a : Nat} (h : a < s.par.registerCount) (v : Word) :
    (s.x.set a v)[a]? = some v ∧ ∀ b, b ≠ a → (s.x.set a v)[b]? = s.x[b]? :=
  ⟨List.getElem?_set_self (hs ▸ h), fun _ hb => List.getElem?_set_ne hb.symm⟩

end Sys2Proof.Machine

namespace Sys2Proof

open Machine

/-- Settles O17: a write in range replaces one register of the file; out of range it answers no state. -/
theorem storeWriteChangesOneRegister : Obligations.StoreWriteChangesOneRegister := by
  intro s a v hs
  refine ⟨fun h => ?_, fun h => storeWrite_of_ge h v, memWrite_eq_storeWrite s a v⟩
  have hw : memWrite s a v = some { s with x := s.x.set a v } := storeWrite_of_lt h v
  obtain ⟨hself, hother⟩ := getElem?_set_of_wf hs h v
  exact ⟨_, hw, rfl, memWrite_keeps_wf hs hw, hself, hother⟩

/-- Settles O18: what a block read answers is fixed by its being an answer, so only when it answers has to be shown. -/
theorem blockReadIsAllOrNothing : Obligations.BlockReadIsAllOrNothing := by
  intro s a n hs
  refine ⟨fun hall => ?_, fun ⟨j, hj, hge⟩ => memRead_eq_none_of_ge hj hge, memRead_zero s a, fun hle => ?_⟩
  · obtain ⟨vs, hvs⟩ := exists_memRead_of_forall_lt hs hall
    obtain ⟨hlen, hread⟩ := memRead_eq_some hvs
    exact ⟨vs, hvs, hlen, fun j hj => by rw [← hread j hj, storeRead_of_lt (hall j hj)]⟩
  · rw [memRead_of_le hs hle, Option.isSome_some]

/-- Settles O16: in range the register exists and is what the read answers. -/
theorem storeReadIsBoundsChecked : Obligations.StoreReadIsBoundsChecked := by
  intro s a hs
  refine ⟨fun h => ?_, storeRead_of_ge, memRead_one s a⟩
  obtain ⟨v, hv⟩ := exists_getElem?_of_wf hs h
  exact ⟨v, hv, (storeRead_of_lt h).trans hv⟩

end Sys2Proof
end

section
/-! Request dispatcher: the two outcomes of a Read, and the one of an unsupported function code
(spec/43_request_dispatcher.md R113, R114, R118). -/

namespace Sys2Proof.Machine

theorem exec_read (start count : Word) (s : State) : exec (.read start count) s = execRead start count s := rfl

/-! ### The acceptance test -/

/-- R163: bit 0 of `oor_info` is the lower of the two joined flags, `over_store`. -/
theorem oorBits_getLsbD_zero (cap store : Bool) : (oorBits cap store).getLsbD 0 = store := by
  cases cap <;> cases store <;> rfl

/-- R163: bit 1 of `oor_info` is the upper of the two joined flags, `over_cap`. -/
theorem oorBits_getLsbD_one (cap store : Bool) : (oorBits cap store).getLsbD 1 = cap := by
  cases cap <;> cases store <;> rfl

/-- R113: the two flags of the acceptance test are the two comparisons, either of which rejects. -/
theorem readRejected_iff (s : State) (start count : Word) : (overStore s start count || overCap s count) = true ↔
    s.par.registerCount < start.toNat + count.toNat ∨ s.par.maxReadCount < count.toNat := by
  simp [overStore, overCap]

/-- R113: a rejected Read only raises its event. -/
theorem execRead_of_rejected {s : State} {start count : Word}
    (h : s.par.registerCount < start.toNat + count.toNat ∨ s.par.maxReadCount < count.toNat) :
    execRead start count s =
      .next (raiseEvent .outOfRangeRead (oorBits (overCap s count) (overStore s start count)) .drain s) :=
  if_pos ((readRejected_iff s start count).mpr h)

/-- R114: an accepted Read answers with the registers of its range; the block read cannot fail. -/
theorem execRead_of_accepted {s : State} (hs : Memory.wf s) {start count : Word}
    (hstore : start.toNat + count.toNat ≤ s.par.registerCount) (hcap : count.toNat ≤ s.par.maxReadCount) :
    execRead start count s = .next (raiseEvent .readOk 0 .emit
      { encodeRead s.cfg.slaveAddr count.toNat ((s.x.drop start.toNat).take count.toNat) s with
        i := count.toNat, k := 0 }) := by
  have haccepted : ¬(overStore s start count || overCap s count) = true := by
    rw [readRejected_iff]
    omega
  rw [execRead, if_neg haccepted, memRead_of_le hs hstore]

/-! ### Unsupported function codes -/

/-- R118: only a Read and a Write interpret operands, so every other function code interprets none. -/
theorem interprets_eq_false_of_func_ne {i : Instr} (hread : i.func ≠ 0x03) (hwrite : i.func ≠ 0x06) :
    i.interprets = false := by
  obtain ⟨start, count, rfl⟩ | ⟨reg, value, rfl⟩ | hi := operation_cases i
  · exact absurd (func_read start count) hread
  · exact absurd (func_write reg value) hwrite
  · exact hi

end Sys2Proof.Machine

namespace Sys2Proof

open Machine

/-- Settles O20: the acceptance test decides between the two equations of a Read. -/
theorem readAcceptanceTest : Obligations.ReadAcceptanceTest := by
  intro s start count
  constructor
  · intro hrejected
    exact ⟨oorBits (overCap s count) (overStore s start count), oorBits_getLsbD_zero _ _, oorBits_getLsbD_one _ _,
      (exec_read start count s).trans (execRead_of_rejected hrejected)⟩
  · intro hs hstore hcap
    exact ⟨_, (exec_read start count s).trans (execRead_of_accepted hs hstore hcap), rfl, rfl, rfl, rfl⟩

/-- Settles O24: an operation with neither code interprets no operands, and all of those act the same. -/
theorem unsupportedCodesDoNothing : Obligations.UnsupportedCodesDoNothing := by
  intro i s hread hwrite
  exact exec_of_not_interprets (interprets_eq_false_of_func_ne hread hwrite) s

end Sys2Proof
end

section
/-! Encoding: decoding and encoding undo each other, and where the operands stand (spec/30_encoding.md R61 to R65,
R78). -/

namespace Sys2Proof

open Machine

/-! ### Decoder and encoder -/

theorem decode_frameBytes_append (f : Frame) (rest : List Byte) :
    decode (frameBytes f ++ rest) = .ok (decodeFrame f, rest) := by
  rw [decode, takeFrame_frameBytes]

theorem decode_of_length_lt {b : List Byte} (h : b.length < 8) : decode b = .error .frameIncomplete := by
  rw [decode, takeFrame_eq_none.mpr h]

/-- A stream of eight bytes or more begins with a frame (R61). -/
theorem exists_eq_frameBytes_append {b : List Byte} (h : 8 ≤ b.length) : ∃ f rest, b = frameBytes f ++ rest := by
  obtain ⟨f, rest, hf⟩ := takeFrame_of_length h
  exact ⟨f, rest, takeFrame_eq_some.mp hf⟩

/-- R78: a request that leaves nothing unread that it interprets stands in its own frame. -/
theorem decodeFrame_encode {r : Request} (h : r.nothingUnread = true) : decodeFrame (encode r) = r := by
  rw [decodeFrame, encode, fieldsOfFrame_frameOfFields, requestOfFields_fieldsOf h]

theorem fieldsOf_decodeFrame (f : Frame) : fieldsOf (decodeFrame f) = fieldsOfFrame f :=
  (fieldsOf_requestOfFields _).1

@[simp] theorem encode_decodeFrame (f : Frame) : encode (decodeFrame f) = f := by
  rw [encode, fieldsOf_decodeFrame, frameOfFields_fieldsOfFrame]

/-! ### Well-formed requests -/

theorem Request.wf_iff (r : Request) : r.wf = true ↔ r.crcRight = true ∧ r.nothingUnread = true := by
  rw [Request.wf, Bool.and_eq_true]

/-- R71, R88: the CRC word of a request is right exactly when its frame passes the CRC check. -/
theorem crcRight_iff_crcVerify_encode (r : Request) :
    r.crcRight = true ↔ crcVerify (frameBytes (encode r)) 6 = some true := by
  have hcrc : join (encode r).crcHi (encode r).crcLo = (fieldsOf r).crc := join_hi8_lo8 _
  rw [crcVerify_frame, hcrc, Option.some_inj, beq_iff_eq, Request.crcRight, beq_iff_eq, eq_comm]
  rfl

/-- The decoder leaves nothing unread that the operation interprets, so only the CRC word is in question. -/
theorem decodeFrame_wf_iff (f : Frame) : (decodeFrame f).wf = true ↔ crcVerify (frameBytes f) 6 = some true := by
  have hread : (decodeFrame f).nothingUnread = true := (fieldsOf_requestOfFields _).2
  rw [Request.wf_iff, crcRight_iff_crcVerify_encode, encode_decodeFrame]
  exact and_iff_left hread

/-! ### Operands -/

theorem decodeInstr_of_func_read {f : Frame} (h : f.func = 0x03) :
    decodeInstr f = .read (join f.p1Hi f.p1Lo) (join f.p2Hi f.p2Lo) := by
  rw [decodeInstr_eq, h]
  exact opcode_read _ _

theorem decodeInstr_of_func_write {f : Frame} (h : f.func = 0x06) :
    decodeInstr f = .write (join f.p1Hi f.p1Lo) (join f.p2Hi f.p2Lo) := by
  rw [decodeInstr_eq, h]
  exact opcode_write _ _

/-- R78: any other operation interprets nothing. -/
theorem decodeInstr_not_interprets {f : Frame} (hread : f.func ≠ 0x03) (hwrite : f.func ≠ 0x06) :
    (decodeInstr f).interprets = false :=
  interprets_eq_false_of_func_ne (by rwa [decodeInstr_func]) (by rwa [decodeInstr_func])

/-- R78: parameters that are not interpreted are kept as received. -/
theorem decodeFrame_unread {f : Frame} (h : (decodeInstr f).interprets = false) :
    (decodeFrame f).unread1 = join f.p1Hi f.p1Lo ∧ (decodeFrame f).unread2 = join f.p2Hi f.p2Lo := by
  have hi : (opcode f.func (join f.p1Hi f.p1Lo) (join f.p2Hi f.p2Lo)).interprets = false := h
  simp [decodeFrame, requestOfFields, fieldsOfFrame, hi]

/-! ### Words of the opcode table -/

theorem decodeTableWord_eq (nbits w : Nat) :
    decodeTableWord nbits w = some (decodeInstr (frameOfWord (BitVec.ofNat 64 (w % 2 ^ nbits)))) := rfl

/-- R63: byte `i` of the frame is the `i`-th byte of the word from the top. -/
theorem frameOfWord_func_toNat {w : Nat} (h : w < 2 ^ 64) :
    (frameOfWord (BitVec.ofNat 64 w)).func.toNat = w / 2 ^ 48 % 256 := by
  simp only [frameOfWord, BitVec.extractLsb'_toNat, BitVec.toNat_ofNat, Nat.shiftRight_eq_div_pow]
  rw [Nat.mod_eq_of_lt h]

theorem join_extract_ofNat {w : Nat} (h : w < 2 ^ 64) (n : Nat) :
    join ((BitVec.ofNat 64 w).extractLsb' (n + 8) 8) ((BitVec.ofNat 64 w).extractLsb' n 8) =
      BitVec.ofNat 16 (w / 2 ^ n) := by
  apply BitVec.eq_of_toNat_eq
  rw [join_toNat]
  simp only [BitVec.extractLsb'_toNat, BitVec.toNat_ofNat, Nat.mod_eq_of_lt h, Nat.shiftRight_eq_div_pow, Nat.pow_add,
    ← Nat.div_div_eq_div_mul]
  omega

theorem frameOfWord_params {w : Nat} (h : w < 2 ^ 64) :
    join (frameOfWord (BitVec.ofNat 64 w)).p1Hi (frameOfWord (BitVec.ofNat 64 w)).p1Lo = BitVec.ofNat 16 (w / 2 ^ 32) ∧
      join (frameOfWord (BitVec.ofNat 64 w)).p2Hi (frameOfWord (BitVec.ofNat 64 w)).p2Lo =
        BitVec.ofNat 16 (w / 2 ^ 16) :=
  ⟨join_extract_ofNat h 32, join_extract_ofNat h 16⟩

/-! ### The statements -/

/-- Settles O1: the eight bytes are cut off again, and a request with nothing unread stands in its own frame. -/
theorem decodeUndoesEncode : Obligations.DecodeUndoesEncode := by
  intro r rest hwf
  obtain ⟨-, hread⟩ := (Request.wf_iff r).mp hwf
  rw [encodeBytes, decode_frameBytes_append, decodeFrame_encode hread]

/-- Settles O2: both halves are facts about the fields, which the decoder keeps all. -/
theorem encodeUndoesDecode : Obligations.EncodeUndoesDecode :=
  fun f => ⟨encode_decodeFrame f, decodeFrame_wf_iff f⟩

/-- Settles O4: each parameter word joins its two bytes, and a joined word is its high byte times 256 plus its low. -/
theorem operandsAreBigEndian : Obligations.OperandsAreBigEndian := by
  intro f
  refine ⟨fun h => ?_, fun h => ?_, fun hread hwrite => ?_⟩
  · exact ⟨_, _, decodeInstr_of_func_read h, join_toNat _ _, join_toNat _ _⟩
  · exact ⟨_, _, decodeInstr_of_func_write h, join_toNat _ _, join_toNat _ _⟩
  · obtain ⟨h1, h2⟩ := decodeFrame_unread (decodeInstr_not_interprets hread hwrite)
    exact ⟨by rw [h1, join_toNat], by rw [h2, join_toNat]⟩

/-- Settles O6: a stream of eight bytes or more is a frame and a rest; a shorter one is not. -/
theorem decoderTakesEightBytes : Obligations.DecoderTakesEightBytes := by
  intro b
  refine ⟨decode_of_length_lt, fun h => ?_⟩
  obtain ⟨f, rest, rfl⟩ := exists_eq_frameBytes_append h
  exact ⟨decodeFrame f, decode_frameBytes_append f rest, congrArg frameBytes (encode_decodeFrame f)⟩

/-- Settles O7: the word is cut into the bytes of a frame from the top, and decoded like any frame. -/
theorem tableWordFields : Obligations.TableWordFields := by
  intro w hw
  have hfunc := frameOfWord_func_toNat hw
  obtain ⟨hp1, hp2⟩ := frameOfWord_params hw
  refine ⟨_, decodeTableWord_eq 64 w, ?_⟩
  rw [Nat.mod_eq_of_lt hw, decodeInstr_func, ← hp1, ← hp2, ← hfunc]
  exact ⟨rfl, fun h => decodeInstr_of_func_read (BitVec.eq_of_toNat_eq h),
    fun h => decodeInstr_of_func_write (BitVec.eq_of_toNat_eq h)⟩

/-- Settles O8: rows of V-ENC-1. -/
theorem specRequestBytesDecode : Obligations.SpecRequestBytesDecode := by
  unfold Obligations.SpecRequestBytesDecode
  decide

end Sys2Proof
end

section
/-! CRC engine: one round bit by bit, the table form of a byte, and what its own CRC does behind a message
(spec/40_crc_engine.md R83, R85, R89, R92). -/

namespace Sys2Proof.Machine

/-- R8: the bits set in 0xA001. -/
theorem crcPoly_getLsbD : ∀ j < 16, crcPoly.getLsbD j = decide (j = 15 ∨ j = 13 ∨ j = 0) := by decide

/-- R83: bit `j` after a round is the bit above, inverted by the dropped bit where the polynomial is set. -/
theorem crcBit_getLsbD (c : Word) (j : Nat) :
    (crcBit c).getLsbD j = (c.getLsbD (j + 1) ^^ (c.getLsbD 0 && crcPoly.getLsbD j)) := by
  rw [crcBit_eq, BitVec.getLsbD_xor, BitVec.getLsbD_ushiftRight, Nat.add_comm 1 j]
  cases c.getLsbD 0 <;> simp

/-- Rounds that drop clear bits only are plain shifts (R83). -/
theorem crcRounds_of_low_clear {n : Nat} {c : Word} (h : ∀ j < n, c.getLsbD j = false) :
    crcRounds n c = c >>> n := by
  induction n generalizing c with
  | zero => simp [crcRounds]
  | succ n ih =>
    rw [crcRounds, crcBit_of_even (h 0 n.succ_pos), ih, ← BitVec.shiftRight_add, Nat.add_comm 1 n]
    intro j hj
    rw [BitVec.getLsbD_ushiftRight, Nat.add_comm 1 j]
    exact h (j + 1) (by omega)

theorem crcRounds_zero_word (n : Nat) : crcRounds n 0#16 = 0#16 := by
  rw [crcRounds_of_low_clear (by simp), BitVec.zero_ushiftRight]

theorem lo8_getLsbD (c : Word) (j : Nat) : (lo8 c).getLsbD j = (decide (j < 8) && c.getLsbD j) := by
  simp [lo8, BitVec.getLsbD_extractLsb']

/-- R11: a word is its high byte above its low byte. -/
theorem xor_lo8_eq_shiftLeft (c : Word) : c ^^^ (lo8 c).setWidth 16 = (c >>> 8) <<< 8 := by
  apply BitVec.eq_of_getLsbD_eq
  intro j hj
  rw [BitVec.getLsbD_xor, BitVec.getLsbD_setWidth, lo8_getLsbD, BitVec.getLsbD_shiftLeft, BitVec.getLsbD_ushiftRight]
  by_cases h8 : j < 8
  · simp [h8, hj]
  · simp [h8, hj, Nat.add_sub_cancel' (Nat.le_of_not_lt h8)]

/-- R85: eight rounds move the high byte down unchanged and look up the low byte with the message byte in a table. -/
theorem crcByte_eq_table (c : Word) (d : Byte) :
    crcByte c d = (c >>> 8) ^^^ crcRounds 8 ((lo8 c ^^^ d).setWidth 16) := by
  have hsplit : c ^^^ d.setWidth 16 = (c >>> 8) <<< 8 ^^^ (lo8 c ^^^ d).setWidth 16 := by
    rw [← xor_lo8_eq_shiftLeft, BitVec.setWidth_xor, BitVec.xor_assoc, ← BitVec.xor_assoc ((lo8 c).setWidth 16),
      BitVec.xor_self, BitVec.zero_xor]
  have hhigh : crcRounds 8 ((c >>> 8) <<< 8) = c >>> 8 := by
    rw [crcRounds_of_low_clear fun j hj => by simp [BitVec.getLsbD_shiftLeft, hj]]
    apply BitVec.eq_of_toNat_eq
    have := c.isLt
    simp only [BitVec.toNat_ushiftRight, BitVec.toNat_shiftLeft, Nat.shiftRight_eq_div_pow, Nat.shiftLeft_eq]
    omega
  rw [crcByte, hsplit, crcRounds_xor, hhigh]

/-- R92: a byte equal to the low byte of the accumulator leaves only the high byte. -/
theorem crcByte_lo8_self (c : Word) : crcByte c (lo8 c) = c >>> 8 := by
  rw [crcByte_eq_table, BitVec.xor_self, BitVec.setWidth_zero, crcRounds_zero_word, BitVec.xor_zero]

theorem lo8_shiftRight_eight (c : Word) : lo8 (c >>> 8) = hi8 c := by
  apply BitVec.eq_of_toNat_eq
  have := c.isLt
  rw [lo8_toNat, hi8_toNat, BitVec.toNat_ushiftRight, Nat.shiftRight_eq_div_pow]
  omega

/-- R89: the validator accepts a message followed by the low and the high byte of its CRC. -/
theorem crcVerify_append_littleEndian (b : List Byte) :
    crcVerify (b ++ littleEndian (crc16 b)) b.length = some true := by
  rw [littleEndian, crcVerify_append, join_hi8_lo8, beq_self_eq_true]

end Sys2Proof.Machine

namespace Sys2Proof

open Machine

/-- Settles O9: the dropped bit inverts where the polynomial is set; above bit 15 nothing comes in. -/
theorem crcRoundBitByBit : Obligations.CrcRoundBitByBit := by
  intro c j hj
  rw [crcBit_getLsbD, crcPoly_getLsbD j hj]
  by_cases h15 : j = 15
  · simp [h15]
  · by_cases hinv : j = 13 ∨ j = 0 <;> simp [h15, hinv]

/-- Settles O10. -/
theorem crcByteByTable : Obligations.CrcByteByTable := crcByte_eq_table

/-- Settles O12. -/
theorem crcRoundTrip : Obligations.CrcRoundTrip := crcVerify_append_littleEndian

/-- Settles O14: the low CRC byte leaves the high byte of the accumulator, and the high CRC byte then leaves nothing. -/
theorem crcResidueIsZero : Obligations.CrcResidueIsZero := by
  intro b
  have hhigh : crcByte (crc16 b >>> 8) (hi8 (crc16 b)) = crc16 b >>> 8 >>> 8 := by
    rw [← lo8_shiftRight_eight, crcByte_lo8_self]
  rw [crc16_append, littleEndian, List.foldl_cons, List.foldl_cons, List.foldl_nil, crcByte_lo8_self, hhigh,
    ← BitVec.shiftRight_add]
  exact BitVec.ushiftRight_eq_zero (by decide)

/-- Settles O15: rows of the table of R92. -/
theorem crcCheckValues : Obligations.CrcCheckValues := by
  unfold Obligations.CrcCheckValues
  decide +kernel

end Sys2Proof
end

section
/-! Request dispatcher and response encoder: every outcome of a request, the shape of a read response, and what no
request touches (spec/43_request_dispatcher.md R112 to R118, spec/44_response_encoder.md R122 to R126). -/

namespace Sys2Proof.Machine

/-! ### The outcomes of a request -/

/-- The outcomes of the request `i` in the state `s`, one constructor per row of R112 to R118. -/
inductive Executes (s : State) : Instr → State → Prop
  | readRejected {start count : Word}
      (h : s.par.registerCount < start.toNat + count.toNat ∨ s.par.maxReadCount < count.toNat) :
      Executes s (.read start count)
        (raiseEvent .outOfRangeRead (oorBits (overCap s count) (overStore s start count)) .drain s)
  | readAccepted {start count : Word} {vals : List Word}
      (hstore : start.toNat + count.toNat ≤ s.par.registerCount) (hcap : count.toNat ≤ s.par.maxReadCount)
      (hvals : memRead s start.toNat count.toNat = some vals) :
      Executes s (.read start count)
        (raiseEvent .readOk 0 .emit { encodeRead s.cfg.slaveAddr count.toNat vals s with i := count.toNat, k := 0 })
  | writeStored {reg value : Word} (h : reg.toNat < s.par.registerCount) :
      Executes s (.write reg value)
        (raiseEvent .writeOk 0 .emit { encodeWrite { s with x := s.x.set reg.toNat value } with k := 0 })
  | writeOutOfRange {reg value : Word} (h : s.par.registerCount ≤ reg.toNat) :
      Executes s (.write reg value) (raiseEvent .writeOutOfRangeAck 0 .emit { encodeWrite s with k := 0 })
  | ignored {i : Instr} (h : i.interprets = false) :
      Executes s i (raiseEvent .unsupportedFunction 0 .drain s)

theorem exec_write (reg value : Word) (s : State) : exec (.write reg value) s = execWrite reg value s := rfl

theorem execWrite_of_lt {s : State} {reg : Word} (h : reg.toNat < s.par.registerCount) (value : Word) :
    execWrite reg value s = .next (raiseEvent .writeOk 0 .emit
      { encodeWrite { s with x := s.x.set reg.toNat value } with k := 0 }) := by
  obtain ⟨-, hw⟩ | ⟨hge, -⟩ := execWrite_cases reg value s
  · exact hw
  · omega

theorem execWrite_of_ge {s : State} {reg : Word} (h : s.par.registerCount ≤ reg.toNat) (value : Word) :
    execWrite reg value s = .next (raiseEvent .writeOutOfRangeAck 0 .emit { encodeWrite s with k := 0 }) := by
  obtain ⟨hlt, -⟩ | ⟨-, hw⟩ := execWrite_cases reg value s
  · omega
  · exact hw

/-- A request has no other outcomes than those listed. -/
theorem executes_of_exec {i : Instr} {s t : State} (h : exec i s = .next t) : Executes s i t := by
  obtain ⟨start, count, rfl⟩ | ⟨reg, value, rfl⟩ | hi := operation_cases i
  · rw [exec_read] at h
    obtain ⟨hr, rfl⟩ | ⟨vals, hstore, hcap, hvals, rfl⟩ := execRead_cases h
    · exact .readRejected ((readRejected_iff s start count).mp hr)
    · refine .readAccepted ?_ ?_ hvals
      · simpa [overStore] using hstore
      · simpa [overCap] using hcap
  · rw [exec_write] at h
    obtain ⟨hlt, hw⟩ | ⟨hge, hw⟩ := execWrite_cases reg value s
    · cases hw.symm.trans h
      exact .writeStored hlt
    · cases hw.symm.trans h
      exact .writeOutOfRange hge
  · cases (exec_of_not_interprets hi s).symm.trans h
    exact .ignored hi

theorem exec_of_executes {i : Instr} {s t : State} (h : Executes s i t) : exec i s = .next t := by
  cases h with
  | readRejected hr => exact execRead_of_rejected hr
  | writeStored hlt => exact execWrite_of_lt hlt _
  | writeOutOfRange hge => exact execWrite_of_ge hge _
  | ignored hi => exact exec_of_not_interprets hi s
  | @readAccepted start count _ hstore hcap hvals =>
    have haccepted : ¬(overStore s start count || overCap s count) = true := by
      rw [readRejected_iff]
      omega
    rw [exec_read, execRead, if_neg haccepted, hvals]

theorem exec_eq_next_iff {i : Instr} {s t : State} : exec i s = .next t ↔ Executes s i t :=
  ⟨executes_of_exec, exec_of_executes⟩

theorem Executes.unique {i : Instr} {s t u : State} (ht : Executes s i t) (hu : Executes s i u) : t = u := by
  have h := (exec_of_executes ht).symm.trans (exec_of_executes hu)
  cases h
  rfl

/-- In a register file of its fixed length every request has an outcome. -/
theorem exists_exec {s : State} (hs : Memory.wf s) (i : Instr) : ∃ t, exec i s = .next t := by
  obtain ⟨start, count, rfl⟩ | ⟨reg, value, rfl⟩ | hi := operation_cases i
  · by_cases hr : s.par.registerCount < start.toNat + count.toNat ∨ s.par.maxReadCount < count.toNat
    · exact ⟨_, execRead_of_rejected hr⟩
    · exact ⟨_, execRead_of_accepted hs (by omega) (by omega)⟩
  · obtain ⟨-, hw⟩ | ⟨-, hw⟩ := execWrite_cases reg value s
    · exact ⟨_, hw⟩
    · exact ⟨_, hw⟩
  · exact ⟨_, exec_of_not_interprets hi s⟩

/-! ### The request in the buffer -/

theorem requested_of_read {s : State} (h : s.req.func = 0x03) : requested s = .read (rqP1 s) (rqP2 s) :=
  decodeInstr_of_func_read h

theorem requested_of_write {s : State} (h : s.req.func = 0x06) : requested s = .write (rqP1 s) (rqP2 s) :=
  decodeInstr_of_func_write h

theorem requested_not_interprets {s : State} (hread : s.req.func ≠ 0x03) (hwrite : s.req.func ≠ 0x06) :
    (requested s).interprets = false :=
  decodeInstr_not_interprets hread hwrite

/-! ### The read response -/

theorem length_flatMap_bigEndian (vals : List Word) : (vals.flatMap bigEndian).length = 2 * vals.length := by
  induction vals with
  | nil => rfl
  | cons v vals ih =>
    rw [List.flatMap_cons, List.length_append, ih, List.length_cons, bigEndian, List.length_cons, List.length_singleton]
    omega

theorem readResponseBody_length (addr : Byte) (count : Nat) (vals : List Word) :
    (readResponseBody addr count vals).length = 3 + 2 * vals.length := by
  rw [readResponseBody, List.length_cons, List.length_cons, List.length_cons, length_flatMap_bigEndian]
  omega

/-- R126: header, data and CRC. -/
theorem encodeRead_resp_length (addr : Byte) (count : Nat) (vals : List Word) (s : State) :
    (encodeRead addr count vals s).resp.length = 5 + 2 * vals.length := by
  rw [encodeRead_resp, List.length_append, readResponseBody_length, littleEndian, List.length_cons,
    List.length_singleton]
  omega

/-- R126: what an accepted Read asks for fits the response buffer. -/
theorem readResponse_le_respCap {p : Params} {count : Nat} (h : count ≤ p.maxReadCount) :
    5 + 2 * count ≤ p.respCap := by
  unfold Params.respCap
  omega

theorem eight_le_respCap (p : Params) : 8 ≤ p.respCap := Nat.le_max_left _ _

/-- A stretch of the register file inside the store holds its registers in order (R96). -/
theorem take_drop_registers {s : State} (hs : Memory.wf s) {a n : Nat} (h : a + n ≤ s.par.registerCount) :
    ((s.x.drop a).take n).length = n ∧ ∀ j, j < n → ((s.x.drop a).take n)[j]? = s.x[a + j]? := by
  constructor
  · rw [List.length_take, List.length_drop, hs]
    omega
  · intro j hj
    rw [List.getElem?_take_of_lt hj, List.getElem?_drop]

end Sys2Proof.Machine

namespace Sys2Proof

open Machine

/-- Settles O19: an accepted Read answers with the stretch of the register file it names. -/
theorem readAcceptedBuildsResponse : Obligations.ReadAcceptedBuildsResponse := by
  intro s start count hs hstore hcap
  obtain ⟨hlen, hget⟩ := take_drop_registers hs hstore
  exact ⟨_, hlen, hget, execRead_of_accepted hs hstore hcap⟩

/-- Settles O21: only an accepted Read raises READ_OK, and the parameters bound its count. -/
theorem readResponseVerifies : Obligations.ReadResponseVerifies := by
  intro s t start count hpar hexec hout
  obtain ⟨-, -, hmax, -⟩ := hpar
  cases exec_eq_next_iff.mp hexec with
  | readRejected => simp at hout
  | ignored hi => simp at hi
  | @readAccepted _ _ vals _ hcap hvals =>
    obtain ⟨hlen, -⟩ := memRead_eq_some hvals
    have hresp : (encodeRead s.cfg.slaveAddr count.toNat vals s).resp.length = 5 + 2 * count.toNat := by
      rw [encodeRead_resp_length, hlen]
    have hbody : (readResponseBody s.cfg.slaveAddr count.toNat vals).length = 3 + 2 * count.toNat := by
      rw [readResponseBody_length, hlen]
    refine ⟨hresp, hresp.trans_le (readResponse_le_respCap hcap), ⟨BitVec.ofNat 8 (2 * count.toNat), rfl, ?_⟩, ?_⟩
    · rw [BitVec.toNat_ofNat]
      omega
    · rw [← hbody]
      exact crcVerify_append_littleEndian _

/-- Settles O22: the two outcomes of a Write. -/
theorem writeStoresIfInRangeAndEchoes : Obligations.WriteStoresIfInRangeAndEchoes := by
  intro s hs
  refine ⟨requested_of_write, fun reg value => ⟨fun hlt => ?_, fun hge => execWrite_of_ge hge value⟩⟩
  obtain ⟨hself, hother⟩ := getElem?_set_of_wf hs hlt value
  exact ⟨_, List.length_set, hself, hother, execWrite_of_lt hlt value⟩

/-- Settles O23. -/
theorem writeOutOfRangeOnlyEchoes : Obligations.WriteOutOfRangeOnlyEchoes :=
  fun _ _ value hge => execWrite_of_ge hge value

/-- Settles O25: of all outcomes only a stored Write touches the register file, and there only the register it names. -/
theorem requestFrame : Obligations.RequestFrame := by
  intro i s t h
  cases exec_eq_next_iff.mp h with
  | readRejected => simp
  | readAccepted => simp
  | writeOutOfRange => simp
  | ignored => simp
  | @writeStored reg value hlt =>
    refine ⟨rfl, rfl, rfl, rfl, rfl, rfl, rfl, rfl, rfl, rfl, rfl, rfl, fun a => ?_⟩
    by_cases ha : reg.toNat = a
    · subst ha
      by_cases hlen : reg.toNat < s.x.length
      · exact .inr ⟨reg, value, rfl, rfl, hlt, List.getElem?_set_self hlen⟩
      · exact .inl (congrArg (·[reg.toNat]?) (List.set_eq_of_length_le (Nat.le_of_not_lt hlen)))
    · exact .inl (List.getElem?_set_ne ha)

end Sys2Proof
end

section
/-! Steps: every transition of the polling loop, one constructor per row of spec/45_polling_loop_fsm.md R146; a step is
a reset, or one of them between the arriving bytes and the strobes. -/

namespace Sys2Proof.Machine

/-! ### What the two ends of a cycle leave in each field -/

@[simp] theorem applyStrobes_par (p : PortIn) (s : State) : (applyStrobes p s).par = s.par := by rw [applyStrobes_eq]
@[simp] theorem applyStrobes_x (p : PortIn) (s : State) : (applyStrobes p s).x = s.x := by rw [applyStrobes_eq]
@[simp] theorem applyStrobes_pc (p : PortIn) (s : State) : (applyStrobes p s).pc = s.pc := by rw [applyStrobes_eq]
@[simp] theorem applyStrobes_k (p : PortIn) (s : State) : (applyStrobes p s).k = s.k := by rw [applyStrobes_eq]
@[simp] theorem applyStrobes_i (p : PortIn) (s : State) : (applyStrobes p s).i = s.i := by rw [applyStrobes_eq]
@[simp] theorem applyStrobes_cfg (p : PortIn) (s : State) : (applyStrobes p s).cfg = s.cfg := by rw [applyStrobes_eq]
@[simp] theorem applyStrobes_req (p : PortIn) (s : State) : (applyStrobes p s).req = s.req := by rw [applyStrobes_eq]
@[simp] theorem applyStrobes_resp (p : PortIn) (s : State) : (applyStrobes p s).resp = s.resp := by rw [applyStrobes_eq]
@[simp] theorem applyStrobes_crc (p : PortIn) (s : State) : (applyStrobes p s).crc = s.crc := by rw [applyStrobes_eq]
@[simp] theorem applyStrobes_out (p : PortIn) (s : State) : (applyStrobes p s).out = s.out := by rw [applyStrobes_eq]
@[simp] theorem applyStrobes_outInfo (p : PortIn) (s : State) : (applyStrobes p s).outInfo = s.outInfo := by
  rw [applyStrobes_eq]
@[simp] theorem applyStrobes_outcome (p : PortIn) (s : State) : (applyStrobes p s).outcome = s.outcome := by
  rw [applyStrobes_eq]
@[simp] theorem applyStrobes_oorInfo (p : PortIn) (s : State) : (applyStrobes p s).oorInfo = s.oorInfo := by
  rw [applyStrobes_eq]
@[simp] theorem applyStrobes_dout (p : PortIn) (s : State) : (applyStrobes p s).dout = s.dout := by rw [applyStrobes_eq]
@[simp] theorem applyStrobes_done (p : PortIn) (s : State) : (applyStrobes p s).done = s.done := by rw [applyStrobes_eq]
@[simp] theorem applyStrobes_rxq (p : PortIn) (s : State) : (applyStrobes p s).rxq = s.rxq := by rw [applyStrobes_eq]
@[simp] theorem applyStrobes_txq (p : PortIn) (s : State) : (applyStrobes p s).txq = s.txq := by rw [applyStrobes_eq]
@[simp] theorem applyStrobes_rnd (p : PortIn) (s : State) : (applyStrobes p s).rnd = s.rnd := by rw [applyStrobes_eq]
@[simp] theorem applyStrobes_env (p : PortIn) (s : State) : (applyStrobes p s).env = s.env := by rw [applyStrobes_eq]

@[simp] theorem seen_par (s : State) : (seen s).par = s.par := rfl
@[simp] theorem seen_x (s : State) : (seen s).x = s.x := rfl
@[simp] theorem seen_pc (s : State) : (seen s).pc = s.pc := rfl
@[simp] theorem seen_k (s : State) : (seen s).k = s.k := rfl
@[simp] theorem seen_i (s : State) : (seen s).i = s.i := rfl
@[simp] theorem seen_cfg (s : State) : (seen s).cfg = s.cfg := rfl
@[simp] theorem seen_shadow (s : State) : (seen s).shadow = s.shadow := rfl
@[simp] theorem seen_req (s : State) : (seen s).req = s.req := rfl
@[simp] theorem seen_resp (s : State) : (seen s).resp = s.resp := rfl
@[simp] theorem seen_crc (s : State) : (seen s).crc = s.crc := rfl
@[simp] theorem seen_out (s : State) : (seen s).out = s.out := rfl
@[simp] theorem seen_outInfo (s : State) : (seen s).outInfo = s.outInfo := rfl
@[simp] theorem seen_outcome (s : State) : (seen s).outcome = s.outcome := rfl
@[simp] theorem seen_oorInfo (s : State) : (seen s).oorInfo = s.oorInfo := rfl
@[simp] theorem seen_dout (s : State) : (seen s).dout = s.dout := rfl
@[simp] theorem seen_done (s : State) : (seen s).done = s.done := rfl
@[simp] theorem seen_rxq (s : State) : (seen s).rxq = s.rxq ++ (portsNow s).rx := rfl
@[simp] theorem seen_txq (s : State) : (seen s).txq = s.txq := rfl
@[simp] theorem seen_rnd (s : State) : (seen s).rnd = s.rnd := rfl
@[simp] theorem seen_env (s : State) : (seen s).env = s.env.tail := rfl

/-- R149, R151: the pending index takes a strobed value that exists, and no other. -/
theorem applyStrobes_shadow (p : PortIn) (s : State) :
    (applyStrobes p s).shadow.slaveAddr = p.cfgAddr.getD s.shadow.slaveAddr ∧
      (∀ n : Word, p.cfgLed = some n → n.toNat < s.par.registerCount →
        (applyStrobes p s).shadow.ledIndex = n.toNat) ∧
      (∀ n : Word, p.cfgLed = some n → s.par.registerCount ≤ n.toNat →
        (applyStrobes p s).shadow.ledIndex = s.shadow.ledIndex) ∧
      (p.cfgLed = none → (applyStrobes p s).shadow.ledIndex = s.shadow.ledIndex) := by
  rw [applyStrobes_eq]
  refine ⟨rfl, fun n hn hlt => ?_, fun n hn hge => ?_, fun hn => ?_⟩
  · simp [hn, hlt]
  · simp [hn, Nat.not_lt.mpr hge]
  · simp [hn]

/-- R149: the pending index stays inside the store. -/
theorem applyStrobes_ledIndex_lt {s : State} (h : s.shadow.ledIndex < s.par.registerCount) (p : PortIn) :
    (applyStrobes p s).shadow.ledIndex < s.par.registerCount := by
  obtain ⟨-, hexists, hmissing, hnone⟩ := applyStrobes_shadow p s
  cases hl : p.cfgLed with
  | none => rwa [hnone hl]
  | some n =>
    rcases Nat.lt_or_ge n.toNat s.par.registerCount with hn | hn
    · rwa [hexists n hl hn]
    · rwa [hmissing n hl hn]

/-- The strobes change the pending copies only. -/
theorem applyStrobes_frame (p : PortIn) (s : State) :
    applyStrobes p s = { s with shadow := (applyStrobes p s).shadow } := by
  rw [applyStrobes_eq]

/-! ### Transitions -/

/-- The transitions of the polling loop from `s`, one constructor per row of R146; `executed` stands for the rows of the
two phases that run a request. -/
inductive PhaseStep (tick : Bool) (s : State) : State → Prop
  | idle (hpc : s.pc = .idle) : PhaseStep tick s { s with done := false, pc := if tick then .refresh else .idle }
  | refreshed (hpc : s.pc = .refresh) : PhaseStep tick s (gotoPhase .gate (refresh (commit s)))
  | frameWaits (hpc : s.pc = .gate) (h : 8 ≤ s.rxq.length) : PhaseStep tick s { gotoPhase .consume s with k := 0 }
  | frameIncomplete (hpc : s.pc = .gate) (h : s.rxq.length < 8) :
      PhaseStep tick s (raiseEvent .frameIncomplete 0 .output s)
  | byteTaken {b : Byte} {rest : List Byte} (hpc : s.pc = .consume) (hk : s.k < 8) (hq : s.rxq = b :: rest) :
      PhaseStep tick s { s with
        rxq := rest, req := setByte s.req s.k b, k := s.k + 1, pc := if s.k + 1 < 8 then .consume else .checkAddr }
  | allTaken (hpc : s.pc = .consume) (hk : 8 ≤ s.k) : PhaseStep tick s (gotoPhase .checkAddr s)
  | addrMatches (hpc : s.pc = .checkAddr) (h : s.req.addr = s.cfg.slaveAddr) :
      PhaseStep tick s (gotoPhase .checkCrc s)
  | addrDiffers (hpc : s.pc = .checkAddr) (h : s.req.addr ≠ s.cfg.slaveAddr) :
      PhaseStep tick s (raiseEvent .addressMismatch 0 .drain s)
  | crcMatches (hpc : s.pc = .checkCrc) (h : crc16 (frameBody s.req) = rqCrc s) :
      PhaseStep tick s { gotoPhase .dispatch s with crc := crc16 (frameBody s.req) }
  | crcDiffers (hpc : s.pc = .checkCrc) (h : crc16 (frameBody s.req) ≠ rqCrc s) :
      PhaseStep tick s { raiseEvent .crcMismatch 0 .drain s with crc := crc16 (frameBody s.req) }
  | selectsRead (hpc : s.pc = .dispatch) (h : s.req.func = 0x03) : PhaseStep tick s (gotoPhase .execRead s)
  | selectsWrite (hpc : s.pc = .dispatch) (h : s.req.func = 0x06) : PhaseStep tick s (gotoPhase .execWrite s)
  | selectsNothing (hpc : s.pc = .dispatch) (hread : s.req.func ≠ 0x03) (hwrite : s.req.func ≠ 0x06) :
      PhaseStep tick s (raiseEvent .unsupportedFunction 0 .drain s)
  | executed {t : State} (hpc : s.pc = .execRead ∨ s.pc = .execWrite) (h : Executes s (requested s) t) :
      PhaseStep tick s t
  | byteSent {b : Byte} (hpc : s.pc = .emit) (hb : s.resp[s.k]? = some b) :
      PhaseStep tick s { sinkWrite [b] s with
        k := s.k + 1, pc := if s.k + 1 < s.resp.length then .emit else .drain }
  | allSent (hpc : s.pc = .emit) (hk : s.resp.length ≤ s.k) : PhaseStep tick s (gotoPhase .drain s)
  | byteDropped {b : Byte} {rest : List Byte} (hpc : s.pc = .drain) (hq : s.rxq = b :: rest) :
      PhaseStep tick s { s with rxq := rest }
  | drained (hpc : s.pc = .drain) (hq : s.rxq = []) : PhaseStep tick s (gotoPhase .output s)
  | latched {v : Word} (hpc : s.pc = .output) (hv : s.x[s.cfg.ledIndex]? = some v) :
      PhaseStep tick s (latchOutcome (setOutput (active v) s))

theorem executionPhase_of_ne {f : Byte} (hread : f ≠ 0x03) (hwrite : f ≠ 0x06) : executionPhase f = .dispatch := by
  rw [executionPhase, if_neg hread, if_neg hwrite]

/-- R111: all `DISPATCH` can do. -/
theorem phaseDispatch_cases (s : State) :
    (s.req.func = 0x03 ∧ phaseDispatch s = .next (gotoPhase .execRead s)) ∨
      (s.req.func = 0x06 ∧ phaseDispatch s = .next (gotoPhase .execWrite s)) ∨
      (s.req.func ≠ 0x03 ∧ s.req.func ≠ 0x06 ∧
        phaseDispatch s = .next (raiseEvent .unsupportedFunction 0 .drain s)) := by
  by_cases hread : s.req.func = 0x03
  · exact .inl ⟨hread, by simp [phaseDispatch, rqFc, executionPhase, hread]⟩
  by_cases hwrite : s.req.func = 0x06
  · exact .inr (.inl ⟨hwrite, by simp [phaseDispatch, rqFc, executionPhase, hwrite]⟩)
  · refine .inr (.inr ⟨hread, hwrite, ?_⟩)
    rw [phaseDispatch, rqFc, if_pos (executionPhase_of_ne hread hwrite),
      exec_of_not_interprets (requested_not_interprets hread hwrite)]
    rfl

theorem phaseAction_of_phaseStep {tick : Bool} {s t : State} (h : PhaseStep tick s t) :
    phaseAction tick s = .next t := by
  cases h with
  | idle hpc => simp [phaseAction, hpc, phaseIdle]
  | refreshed hpc => simp [phaseAction, hpc, phaseRefresh]
  | frameWaits hpc h => simp [phaseAction, hpc, phaseGate, avail, h]
  | frameIncomplete hpc h => simp [phaseAction, hpc, phaseGate, avail, Nat.not_le.mpr h]
  | byteTaken hpc hk hq => simp [phaseAction, hpc, phaseConsume, hk, readByte, hq]
  | allTaken hpc hk => simp [phaseAction, hpc, phaseConsume, Nat.not_lt.mpr hk]
  | addrMatches hpc h => simp [phaseAction, hpc, phaseCheckAddr, h]
  | addrDiffers hpc h => simp [phaseAction, hpc, phaseCheckAddr, h]
  | crcMatches hpc h => simp [phaseAction, hpc, phaseCheckCrc_eq, h]
  | crcDiffers hpc h => simp [phaseAction, hpc, phaseCheckCrc_eq, h]
  | selectsRead hpc h => simp [phaseAction, hpc, phaseDispatch, rqFc, executionPhase, h]
  | selectsWrite hpc h => simp [phaseAction, hpc, phaseDispatch, rqFc, executionPhase, h]
  | selectsNothing hpc hread hwrite =>
    obtain ⟨h, -⟩ | ⟨h, -⟩ | ⟨-, -, h⟩ := phaseDispatch_cases s
    · exact absurd h hread
    · exact absurd h hwrite
    · simp [phaseAction, hpc, h]
  | executed hpc h =>
    rcases hpc with hpc | hpc
    · simp [phaseAction, hpc, exec_of_executes h]
    · simp [phaseAction, hpc, exec_of_executes h]
  | byteSent hpc hb => simp [phaseAction, hpc, phaseEmit, hb]
  | allSent hpc hk => simp [phaseAction, hpc, phaseEmit, List.getElem?_eq_none hk]
  | byteDropped hpc hq => simp [phaseAction, hpc, phaseDrain, readByte, hq]
  | drained hpc hq => simp [phaseAction, hpc, phaseDrain, readByte, hq]
  | latched hpc hv => simp [phaseAction, hpc, phaseOutput, rawRead, hv]

/-- R146 has no other rows. -/
theorem phaseStep_of_phaseAction {tick : Bool} {s t : State} (h : phaseAction tick s = .next t) :
    PhaseStep tick s t := by
  unfold phaseAction at h
  split at h
  case h_1 hpc => cases h; exact .idle hpc
  case h_2 hpc => cases h; exact .refreshed hpc
  case h_3 hpc =>
    unfold phaseGate avail at h
    split at h
    · next hlen => cases h; exact .frameWaits hpc hlen
    · next hlen => cases h; exact .frameIncomplete hpc (Nat.lt_of_not_le hlen)
  case h_4 hpc =>
    obtain ⟨hk, rfl⟩ | ⟨b, rest, hk, hq, rfl⟩ := phaseConsume_cases h
    · exact .allTaken hpc hk
    · exact .byteTaken hpc hk hq
  case h_5 hpc =>
    unfold phaseCheckAddr at h
    split at h
    · next haddr => cases h; exact .addrMatches hpc haddr
    · next haddr => cases h; exact .addrDiffers hpc haddr
  case h_6 hpc =>
    rw [phaseCheckCrc_eq] at h
    split at h
    · next hcrc => cases h; exact .crcMatches hpc hcrc
    · next hcrc => cases h; exact .crcDiffers hpc hcrc
  case h_7 hpc =>
    obtain ⟨hf, hd⟩ | ⟨hf, hd⟩ | ⟨hread, hwrite, hd⟩ := phaseDispatch_cases s
    · cases hd.symm.trans h; exact .selectsRead hpc hf
    · cases hd.symm.trans h; exact .selectsWrite hpc hf
    · cases hd.symm.trans h; exact .selectsNothing hpc hread hwrite
  case h_8 hpc => exact .executed (.inl hpc) (executes_of_exec h)
  case h_9 hpc => exact .executed (.inr hpc) (executes_of_exec h)
  case h_10 hpc =>
    obtain ⟨b, -, hb, he⟩ | ⟨hk, he⟩ := phaseEmit_cases s
    · cases he.symm.trans h; exact .byteSent hpc hb
    · cases he.symm.trans h; exact .allSent hpc hk
  case h_11 hpc =>
    obtain ⟨b, rest, hq, hd⟩ | ⟨hq, hd⟩ := phaseDrain_cases s
    · cases hd.symm.trans h; exact .byteDropped hpc hq
    · cases hd.symm.trans h; exact .drained hpc hq
  case h_12 hpc =>
    obtain ⟨v, hv, rfl⟩ := phaseOutput_cases h
    exact .latched hpc hv

theorem PhaseStep.unique {tick : Bool} {s t u : State} (ht : PhaseStep tick s t) (hu : PhaseStep tick s u) : t = u := by
  have h := (phaseAction_of_phaseStep ht).symm.trans (phaseAction_of_phaseStep hu)
  cases h
  rfl

/-! ### Cycles -/

/-- Log 3: the bytes arrive, then `rst` or the phase action, then the strobes. -/
theorem step_eq (s : State) :
    step s =
      if hasRoom s (portsNow s).rx then
        if (portsNow s).rst then .next (resetEngine (seen s))
        else thenDo (phaseAction (portsNow s).tick (seen s)) fun t => .next (applyStrobes (portsNow s) t)
      else .refused .rxOverflow := rfl

/-- A step that answers found room for the arriving bytes, and is a reset or one transition. -/
theorem step_eq_next_iff {s t : State} :
    step s = .next t ↔ hasRoom s (portsNow s).rx = true ∧
      (((portsNow s).rst = true ∧ t = resetEngine (seen s)) ∨
        ((portsNow s).rst = false ∧
          ∃ u, PhaseStep (portsNow s).tick (seen s) u ∧ t = applyStrobes (portsNow s) u)) := by
  constructor
  · intro h
    refine ⟨?_, ?_⟩
    · by_contra hroom
      rw [step_eq, if_neg hroom] at h
      cases h
    · obtain hreset | ⟨u, hrst, hu, ht⟩ := step_cases h
      · exact .inl hreset
      · exact .inr ⟨hrst, u, phaseStep_of_phaseAction hu, ht⟩
  · rintro ⟨hroom, ⟨hrst, rfl⟩ | ⟨hrst, u, hu, rfl⟩⟩
    · rw [step_eq, if_pos hroom, if_pos hrst]
    · rw [step_eq, if_pos hroom, hrst, phaseAction_of_phaseStep hu]
      rfl

/-- A step without `rst` is one transition, between the arriving bytes and the strobes. -/
theorem exists_phaseStep_of_step {s t : State} (h : step s = .next t) (hrst : (portsNow s).rst = false) :
    ∃ u, PhaseStep (portsNow s).tick (seen s) u ∧ t = applyStrobes (portsNow s) u := by
  obtain ⟨-, ⟨hreset, -⟩ | ⟨-, hu⟩⟩ := step_eq_next_iff.mp h
  · rw [hrst] at hreset; cases hreset
  · exact hu

theorem step_eq_of_phaseStep {s t u : State} (h : step s = .next t) (hrst : (portsNow s).rst = false)
    (hu : PhaseStep (portsNow s).tick (seen s) u) : t = applyStrobes (portsNow s) u := by
  obtain ⟨u', hu', rfl⟩ := exists_phaseStep_of_step h hrst
  rw [hu'.unique hu]

/-- With no scheduled input a step is a transition. -/
theorem step_of_phaseStep {s t : State} (henv : s.env = []) (h : PhaseStep false s t) : step s = .next t :=
  (step_of_no_input henv).trans (phaseAction_of_phaseStep h)

end Sys2Proof.Machine
end

section
/-! The invariant: it holds after reset, every part of a cycle keeps it, and in a state that meets it every phase has a
transition (spec/45_polling_loop_fsm.md section 2, spec/60_exceptions.md R163). -/

namespace Sys2Proof.Machine

/-! ### Parts of the invariant -/

/-- A shorter queue fits the same capacity (D19). -/
theorem fits_of_le {cap : Option Nat} {m n : Nat} (h : cap.all fun c => n ≤ c) (hmn : m ≤ n) :
    cap.all fun c => m ≤ c := by
  cases cap with
  | none => rfl
  | some c =>
    have hn : n ≤ c := by simpa using h
    simpa using hmn.trans hn

/-- D19: where there is room for the arriving bytes, the queue fits its capacity with them. -/
theorem fits_append_of_hasRoom {s : State} {rx : List Byte} (h : s.par.rxCap.all fun c => s.rxq.length ≤ c)
    (hroom : hasRoom s rx = true) : s.par.rxCap.all fun c => (s.rxq ++ rx).length ≤ c := by
  unfold hasRoom at hroom
  cases hcap : s.par.rxCap with
  | none => rfl
  | some c =>
    have hc : s.rxq.length ≤ c := by simpa [hcap] using h
    rw [hcap, Bool.or_eq_true, List.isEmpty_iff, decide_eq_true_iff] at hroom
    obtain rfl | hle := hroom
    · simpa using hc
    · simpa using hle

/-- R113: a rejected Read has a cause to report. -/
theorem oorBits_ne_zero {s : State} {start count : Word}
    (h : s.par.registerCount < start.toNat + count.toNat ∨ s.par.maxReadCount < count.toNat) :
    oorBits (overCap s count) (overStore s start count) ≠ 0 := by
  rw [← readRejected_iff] at h
  revert h
  cases overCap s count <;> cases overStore s start count <;> decide

section
variable {s : State}

theorem inv_busy (hs : Inv s) (hpc : s.pc ≠ .idle) : s.done = false := by
  obtain ⟨-, -, -, -, -, -, -, -, hdone, -⟩ := hs
  exact hdone hpc

/-- R146: a tick that has raised no event yet has built no response either. -/
theorem inv_beforeEffect (hs : Inv s) (hpc : beforeEffect s.pc = true) : s.done = false ∧ s.resp = [] := by
  have hbusy : s.pc ≠ .idle := by
    intro hidle
    rw [hidle] at hpc
    cases hpc
  obtain ⟨-, -, -, -, -, -, -, -, -, hbefore, -⟩ := id hs
  exact ⟨inv_busy hs hbusy, hbefore hpc⟩

theorem inv_consume (hs : Inv s) (hpc : s.pc = .consume) : s.k < 8 ∧ 8 ≤ s.k + s.rxq.length := by
  obtain ⟨-, -, -, -, -, -, -, -, -, -, hconsume, -⟩ := hs
  exact hconsume hpc

theorem inv_execRead (hs : Inv s) (hpc : s.pc = .execRead) : s.req.func = 0x03 := by
  obtain ⟨-, -, -, -, -, -, -, -, -, -, -, -, -, hread, -⟩ := hs
  exact (hread hpc).2

theorem inv_execWrite (hs : Inv s) (hpc : s.pc = .execWrite) : s.req.func = 0x06 := by
  obtain ⟨-, -, -, -, -, -, -, -, -, -, -, -, -, -, hwrite, -⟩ := hs
  exact (hwrite hpc).2

theorem inv_emit (hs : Inv s) (hpc : s.pc = .emit) :
    s.k < s.resp.length ∧ (s.out = .readOk ∨ s.out = .writeOk ∨ s.out = .writeOutOfRangeAck) := by
  obtain ⟨-, -, -, -, -, -, -, -, -, -, -, -, -, -, -, hemit, -⟩ := hs
  obtain ⟨hk, hevent⟩ := hemit hpc
  exact ⟨hk, by simpa using hevent⟩

theorem inv_drain (hs : Inv s) (hpc : s.pc = .drain) : s.out ≠ .none ∧ s.out ≠ .frameIncomplete := by
  obtain ⟨-, -, -, -, -, -, -, -, -, -, -, -, -, -, -, -, hdrain, -⟩ := hs
  simpa using hdrain hpc

end

/-! ### The parts of a cycle keep the invariant -/

theorem inv_resetWith {p : Params} (hp : p.wf) : Inv (State.resetWith p) := by
  obtain ⟨-, hled, -, hcap⟩ := id hp
  refine ⟨hp, resetWith_wf p, hled, hled, Nat.zero_le _, fits_of_le hcap (Nat.zero_le 8), ?_, ?_, ?_⟩
  · simp [State.resetWith]
  · simp [State.resetWith]
  · simp [phaseInv, State.resetWith, beforeEffect]

/-- R177, R180: `rst` leaves the queue, and with it its capacity, as they were. -/
theorem inv_resetEngine {s : State} (hs : Inv s) : Inv (resetEngine s) := by
  obtain ⟨hpar, -, -, -, -, hrx, -⟩ := hs
  obtain ⟨-, hmem, hcfg, hshadow, hresp, -, hout, houtcome, -⟩ := inv_resetWith hpar
  exact ⟨hpar, hmem, hcfg, hshadow, hresp, hrx, hout, houtcome, by simp [phaseInv, beforeEffect]⟩

/-- Arriving bytes that fit only lengthen the queue, which `CONSUME` relies on to be long enough. -/
theorem inv_seen {s : State} (hs : Inv s) (hroom : hasRoom s (portsNow s).rx = true) : Inv (seen s) := by
  obtain ⟨hpar, hmem, hcfg, hshadow, hresp, hrx, hout, houtcome, hdone, hbefore, hconsume, hrest⟩ := hs
  refine ⟨hpar, hmem, hcfg, hshadow, hresp, fits_append_of_hasRoom hrx hroom, hout, houtcome, hdone, hbefore, ?_, hrest⟩
  intro hpc
  obtain ⟨hk, hlen⟩ := hconsume hpc
  refine ⟨hk, ?_⟩
  rw [seen_rxq, List.length_append, seen_k]
  omega

/-- R149: the strobes keep the pending index inside the store. -/
theorem inv_applyStrobes {p : PortIn} {s : State} (hs : Inv s) : Inv (applyStrobes p s) := by
  obtain ⟨hpar, hmem, hcfg, hshadow, hrest⟩ := hs
  rw [applyStrobes_frame]
  exact ⟨hpar, hmem, hcfg, applyStrobes_ledIndex_lt hshadow p, hrest⟩

/-- A request keeps the invariant, from either phase that runs one. -/
theorem inv_executes {s t : State} (hs : Inv s) (hpc : beforeEffect s.pc = true) {i : Instr} (h : Executes s i t) :
    Inv t := by
  obtain ⟨hdone, hresp⟩ := inv_beforeEffect hs hpc
  obtain ⟨hpar, hmem, hcfg, hshadow, -, hrx, -, houtcome, -⟩ := hs
  cases h with
  | readRejected hr =>
    refine ⟨hpar, hmem, hcfg, hshadow, ?_, hrx, ?_, houtcome, ?_⟩
    · simp [hresp]
    · exact ⟨fun _ => oorBits_ne_zero hr, fun _ => rfl⟩
    · simp [phaseInv, beforeEffect, hdone]
  | @readAccepted _ count vals _ hcap hvals =>
    obtain ⟨hlen, -⟩ := memRead_eq_some hvals
    have hbytes := encodeRead_resp_length s.cfg.slaveAddr count.toNat vals s
    refine ⟨hpar, hmem, hcfg, hshadow, ?_, hrx, ?_, houtcome, ?_⟩
    · rw [raiseEvent_resp, hbytes, hlen]
      exact readResponse_le_respCap hcap
    · simp
    · have hpos : 0 < (encodeRead s.cfg.slaveAddr count.toNat vals s).resp.length := by rw [hbytes]; omega
      simpa [phaseInv, beforeEffect, hdone] using hpos
  | writeStored hlt =>
    refine ⟨hpar, ?_, hcfg, hshadow, eight_le_respCap _, hrx, ?_, houtcome, ?_⟩
    · simpa [Memory.wf] using hmem
    · simp
    · simp [phaseInv, beforeEffect, hdone]
  | writeOutOfRange hge =>
    refine ⟨hpar, hmem, hcfg, hshadow, eight_le_respCap _, hrx, ?_, houtcome, ?_⟩
    · simp
    · simp [phaseInv, beforeEffect, hdone]
  | ignored hi =>
    refine ⟨hpar, hmem, hcfg, hshadow, ?_, hrx, ?_, houtcome, ?_⟩
    · simp [hresp]
    · simp
    · simp [phaseInv, beforeEffect, hdone]

/-- R146: every transition keeps the invariant; what the next phase relies on is what this one has established. -/
theorem inv_phaseStep {tick : Bool} {s t : State} (hs : Inv s) (h : PhaseStep tick s t) : Inv t := by
  obtain ⟨hpar, hmem, hcfg, hshadow, hresp, hrx, hout, houtcome, hphase⟩ := id hs
  obtain ⟨-, -, -, haddr, hdispatch, -⟩ := hphase
  cases h with
  | idle hpc =>
    refine ⟨hpar, hmem, hcfg, hshadow, hresp, hrx, hout, houtcome, ?_⟩
    cases tick <;> simp [phaseInv, beforeEffect]
  | refreshed hpc =>
    refine ⟨hpar, refresh_keeps_wf hmem, hshadow, hshadow, Nat.zero_le _, hrx, hout, houtcome, ?_⟩
    simpa [phaseInv, beforeEffect] using inv_busy hs (by simp [hpc])
  | frameWaits hpc hlen =>
    refine ⟨hpar, hmem, hcfg, hshadow, hresp, hrx, hout, houtcome, ?_⟩
    simpa [phaseInv, beforeEffect, hlen] using inv_beforeEffect hs (by rw [hpc]; rfl)
  | frameIncomplete hpc _ =>
    refine ⟨hpar, hmem, hcfg, hshadow, hresp, hrx, by simp, houtcome, ?_⟩
    simpa [phaseInv, beforeEffect] using inv_busy hs (by simp [hpc])
  | @byteTaken b rest hpc hk hq =>
    have hlen : s.rxq.length = rest.length + 1 := by rw [hq, List.length_cons]
    have hwait : 8 ≤ s.k + s.rxq.length := (inv_consume hs hpc).2
    refine ⟨hpar, hmem, hcfg, hshadow, hresp, fits_of_le hrx (by simp [hlen]), hout, houtcome, ?_⟩
    by_cases hk' : s.k + 1 < 8
    · simpa [phaseInv, beforeEffect, hk', show 8 ≤ s.k + 1 + rest.length by omega] using
        inv_beforeEffect hs (by rw [hpc]; rfl)
    · simpa [phaseInv, beforeEffect, hk'] using inv_beforeEffect hs (by rw [hpc]; rfl)
  | allTaken hpc _ =>
    refine ⟨hpar, hmem, hcfg, hshadow, hresp, hrx, hout, houtcome, ?_⟩
    simpa [phaseInv, beforeEffect] using inv_beforeEffect hs (by rw [hpc]; rfl)
  | addrMatches hpc heq =>
    refine ⟨hpar, hmem, hcfg, hshadow, hresp, hrx, hout, houtcome, ?_⟩
    simpa [phaseInv, beforeEffect, heq] using inv_beforeEffect hs (by rw [hpc]; rfl)
  | addrDiffers hpc _ =>
    refine ⟨hpar, hmem, hcfg, hshadow, hresp, hrx, by simp, houtcome, ?_⟩
    simpa [phaseInv, beforeEffect] using inv_busy hs (by simp [hpc])
  | crcMatches hpc heq =>
    refine ⟨hpar, hmem, hcfg, hshadow, hresp, hrx, hout, houtcome, ?_⟩
    have hvalid : validRequest s := ⟨haddr hpc, heq⟩
    obtain ⟨hdone, hempty⟩ := inv_beforeEffect hs (by rw [hpc]; rfl)
    simpa [phaseInv, beforeEffect] using ⟨hdone, hempty, hvalid⟩
  | crcDiffers hpc _ =>
    refine ⟨hpar, hmem, hcfg, hshadow, hresp, hrx, by simp, houtcome, ?_⟩
    simpa [phaseInv, beforeEffect] using inv_busy hs (by simp [hpc])
  | selectsRead hpc hf =>
    refine ⟨hpar, hmem, hcfg, hshadow, hresp, hrx, hout, houtcome, ?_⟩
    obtain ⟨hdone, hempty⟩ := inv_beforeEffect hs (by rw [hpc]; rfl)
    simpa [phaseInv, beforeEffect, hf] using ⟨hdone, hempty, hdispatch hpc⟩
  | selectsWrite hpc hf =>
    refine ⟨hpar, hmem, hcfg, hshadow, hresp, hrx, hout, houtcome, ?_⟩
    obtain ⟨hdone, hempty⟩ := inv_beforeEffect hs (by rw [hpc]; rfl)
    simpa [phaseInv, beforeEffect, hf] using ⟨hdone, hempty, hdispatch hpc⟩
  | selectsNothing hpc _ _ =>
    refine ⟨hpar, hmem, hcfg, hshadow, hresp, hrx, by simp, houtcome, ?_⟩
    simpa [phaseInv, beforeEffect] using inv_busy hs (by simp [hpc])
  | executed hpc hex =>
    rcases hpc with hpc | hpc
    · exact inv_executes hs (by rw [hpc]; rfl) hex
    · exact inv_executes hs (by rw [hpc]; rfl) hex
  | byteSent hpc hb =>
    obtain ⟨-, hevent⟩ := inv_emit hs hpc
    refine ⟨hpar, hmem, hcfg, hshadow, hresp, hrx, hout, houtcome, ?_⟩
    by_cases hk' : s.k + 1 < s.resp.length
    · simpa [phaseInv, beforeEffect, hk'] using ⟨inv_busy hs (by simp [hpc]), hevent⟩
    · have hdrains : s.out ≠ .none ∧ s.out ≠ .frameIncomplete := by
        rcases hevent with he | he | he <;> simp [he]
      simpa [phaseInv, beforeEffect, hk'] using ⟨inv_busy hs (by simp [hpc]), hdrains⟩
  | allSent hpc hk =>
    exact absurd (inv_emit hs hpc).1 (Nat.not_lt.mpr hk)
  | @byteDropped b rest hpc hq =>
    have hlen : s.rxq.length = rest.length + 1 := by rw [hq, List.length_cons]
    refine ⟨hpar, hmem, hcfg, hshadow, hresp, fits_of_le hrx (by simp [hlen]), hout, houtcome, ?_⟩
    simpa [phaseInv, beforeEffect, hpc] using ⟨inv_busy hs (by simp [hpc]), inv_drain hs hpc⟩
  | drained hpc _ =>
    refine ⟨hpar, hmem, hcfg, hshadow, hresp, hrx, hout, houtcome, ?_⟩
    simpa [phaseInv, beforeEffect] using ⟨inv_busy hs (by simp [hpc]), (inv_drain hs hpc).1⟩
  | latched hpc _ =>
    exact ⟨hpar, hmem, hcfg, hshadow, hresp, hrx, hout, hout, by simp [phaseInv, beforeEffect]⟩

/-! ### Progress -/

/-- In a state that meets the invariant every phase has a transition. -/
theorem exists_phaseStep {s : State} (hs : Inv s) (tick : Bool) : ∃ t, PhaseStep tick s t := by
  obtain ⟨-, hmem, hled, -⟩ := id hs
  cases hpc : s.pc with
  | idle => exact ⟨_, .idle hpc⟩
  | refresh => exact ⟨_, .refreshed hpc⟩
  | gate =>
    rcases Nat.lt_or_ge s.rxq.length 8 with hlen | hlen
    · exact ⟨_, .frameIncomplete hpc hlen⟩
    · exact ⟨_, .frameWaits hpc hlen⟩
  | consume =>
    obtain ⟨hk, hlen⟩ := inv_consume hs hpc
    obtain ⟨b, rest, hq⟩ := List.exists_cons_of_length_pos (l := s.rxq) (by omega)
    exact ⟨_, .byteTaken hpc hk hq⟩
  | checkAddr =>
    by_cases h : s.req.addr = s.cfg.slaveAddr
    · exact ⟨_, .addrMatches hpc h⟩
    · exact ⟨_, .addrDiffers hpc h⟩
  | checkCrc =>
    by_cases h : crc16 (frameBody s.req) = rqCrc s
    · exact ⟨_, .crcMatches hpc h⟩
    · exact ⟨_, .crcDiffers hpc h⟩
  | dispatch =>
    obtain ⟨h, -⟩ | ⟨h, -⟩ | ⟨hread, hwrite, -⟩ := phaseDispatch_cases s
    · exact ⟨_, .selectsRead hpc h⟩
    · exact ⟨_, .selectsWrite hpc h⟩
    · exact ⟨_, .selectsNothing hpc hread hwrite⟩
  | execRead =>
    obtain ⟨t, ht⟩ := exists_exec hmem (requested s)
    exact ⟨t, .executed (.inl hpc) (executes_of_exec ht)⟩
  | execWrite =>
    obtain ⟨t, ht⟩ := exists_exec hmem (requested s)
    exact ⟨t, .executed (.inr hpc) (executes_of_exec ht)⟩
  | emit =>
    obtain ⟨b, -, hb, -⟩ | ⟨hk, -⟩ := phaseEmit_cases s
    · exact ⟨_, .byteSent hpc hb⟩
    · exact ⟨_, .allSent hpc hk⟩
  | drain =>
    obtain ⟨b, rest, hq, -⟩ | ⟨hq, -⟩ := phaseDrain_cases s
    · exact ⟨_, .byteDropped hpc hq⟩
    · exact ⟨_, .drained hpc hq⟩
  | output =>
    obtain ⟨v, hv⟩ := exists_getElem?_of_wf hmem hled
    exact ⟨_, .latched hpc hv⟩

theorem inv_step {s t : State} (hs : Inv s) (h : step s = .next t) : Inv t := by
  obtain ⟨hroom, ⟨-, rfl⟩ | ⟨-, u, hu, rfl⟩⟩ := step_eq_next_iff.mp h
  · exact inv_resetEngine (inv_seen hs hroom)
  · exact inv_applyStrobes (inv_phaseStep (inv_seen hs hroom) hu)

/-- Only an overflow of the receive queue stops a step. -/
theorem exists_step {s : State} (hs : Inv s) (hroom : hasRoom s (portsNow s).rx = true) : ∃ t, step s = .next t := by
  cases hrst : (portsNow s).rst with
  | true => exact ⟨_, step_eq_next_iff.mpr ⟨hroom, .inl ⟨hrst, rfl⟩⟩⟩
  | false =>
    obtain ⟨u, hu⟩ := exists_phaseStep (inv_seen hs hroom) (portsNow s).tick
    exact ⟨_, step_eq_next_iff.mpr ⟨hroom, .inr ⟨hrst, u, hu, rfl⟩⟩⟩

end Sys2Proof.Machine

namespace Sys2Proof

open Machine

/-- Settles O46: a reset, and each transition between the arriving bytes and the strobes, keeps the invariant. -/
theorem stepKeepsInvariant : Obligations.StepKeepsInvariant :=
  fun _ _ => inv_step

/-- Settles O45. -/
theorem resetMeetsInvariant : Obligations.ResetMeetsInvariant :=
  ⟨inv_resetWith (by decide), fun _ => inv_resetWith⟩

/-- Settles O47: with room for the arriving bytes every phase has a transition. -/
theorem noInputHaltsTheEngine : Obligations.NoInputHaltsTheEngine := by
  intro s hs
  cases hroom : hasRoom s (portsNow s).rx with
  | true => exact .inl (exists_step hs hroom)
  | false => exact .inr ⟨rfl, by rw [step_eq, hroom]; rfl⟩

end Sys2Proof
end

section
/-! Single steps: what a transition leaves unchanged, the setters, reset, and the placing of a request
(spec/10_state.md section 11, spec/46_configuration.md, spec/70_reset_and_hazards.md section 1). -/

namespace Sys2Proof.Machine

/-! ### What a transition leaves unchanged -/

theorem PhaseStep.frame {tick : Bool} {s t : State} (h : PhaseStep tick s t) :
    t.par = s.par ∧ t.shadow = s.shadow ∧ t.env = s.env := by
  cases h with
  | executed _ hex =>
    obtain ⟨hpar, -, hshadow, -, -, -, -, -, -, -, -, henv, -⟩ := requestFrame _ _ _ (exec_of_executes hex)
    exact ⟨hpar, hshadow, henv⟩
  | _ => exact ⟨rfl, rfl, rfl⟩

/-- R24: only `REFRESH` commits the configuration. -/
theorem PhaseStep.cfg_eq {tick : Bool} {s t : State} (h : PhaseStep tick s t) :
    t.cfg = if s.pc = .refresh then s.shadow else s.cfg := by
  cases h with
  | executed hpc hex =>
    obtain ⟨-, hcfg, -⟩ := requestFrame _ _ _ (exec_of_executes hex)
    rcases hpc with hpc | hpc <;> simp [hpc, hcfg]
  | _ hpc => simp [hpc]

/-- R42, R136: only `CONSUME` and `DRAIN` take a byte, the oldest. -/
theorem PhaseStep.rxq_eq {tick : Bool} {s t : State} (h : PhaseStep tick s t) :
    t.rxq = s.rxq ∨ ((s.pc = .consume ∨ s.pc = .drain) ∧ t.rxq = s.rxq.tail) := by
  cases h with
  | byteTaken hpc _ hq => exact .inr ⟨.inl hpc, by simp [hq]⟩
  | byteDropped hpc hq => exact .inr ⟨.inr hpc, by simp [hq]⟩
  | executed _ hex =>
    obtain ⟨-, -, -, -, -, -, -, -, hrxq, -⟩ := requestFrame _ _ _ (exec_of_executes hex)
    exact .inl hrxq
  | _ => exact .inl rfl

/-- R128: only `EMIT` reaches the sink, with the response's next byte. -/
theorem PhaseStep.txq_eq {tick : Bool} {s t : State} (h : PhaseStep tick s t) :
    t.txq = s.txq ∨ (s.pc = .emit ∧ ∃ b, s.resp[s.k]? = some b ∧ t.txq = s.txq ++ [b]) := by
  cases h with
  | byteSent hpc hb => exact .inr ⟨hpc, _, hb, rfl⟩
  | executed _ hex =>
    obtain ⟨-, -, -, -, -, -, -, -, -, htxq, -⟩ := requestFrame _ _ _ (exec_of_executes hex)
    exact .inl htxq
  | _ => exact .inl rfl

/-- R29, R141: only `OUTPUT` writes the status registers and the output latch. -/
theorem PhaseStep.status_eq {tick : Bool} {s t : State} (h : PhaseStep tick s t) (hpc : s.pc ≠ .output) :
    t.outcome = s.outcome ∧ t.oorInfo = s.oorInfo ∧ t.dout = s.dout := by
  cases h with
  | latched hout => exact absurd hout hpc
  | executed _ hex =>
    obtain ⟨-, -, -, -, houtcome, hinfo, hdout, -⟩ := requestFrame _ _ _ (exec_of_executes hex)
    exact ⟨houtcome, hinfo, hdout⟩
  | _ => exact ⟨rfl, rfl, rfl⟩

/-- R17, R37: only `REFRESH` and the two phases that run a request can write a register. -/
theorem PhaseStep.x_eq {tick : Bool} {s t : State} (h : PhaseStep tick s t) :
    t.x = s.x ∨ (s.pc = .refresh ∧ t = gotoPhase .gate (refresh (commit s))) ∨
      ((s.pc = .execRead ∨ s.pc = .execWrite) ∧ Executes s (requested s) t) := by
  cases h with
  | refreshed hpc => exact .inr (.inl ⟨hpc, rfl⟩)
  | executed hpc hex => exact .inr (.inr ⟨hpc, hex⟩)
  | _ => exact .inl rfl

/-! ### The refresh -/

/-- R98, R131: the refresh of the newly committed configuration gives every register its draw, in ascending order, but
the newly bound one. -/
theorem refresh_commit_spec {s : State} (hmem : Memory.wf s) (hled : s.shadow.ledIndex < s.par.registerCount) :
    (refresh (commit s)).x.length = s.par.registerCount ∧
      (∀ j, j < s.par.registerCount → (refresh (commit s)).x[j]? = dispatched s j) ∧
      (refresh (commit s)).rnd = afterDraws s.rnd (s.par.registerCount - 1) := by
  obtain ⟨hrnd, hx⟩ := refreshFrom_spec s.rnd s.x (Nat.zero_le s.shadow.ledIndex) (by rw [hmem]; omega)
  rw [hmem] at hrnd
  refine ⟨(refreshFrom_length _ _ _ _).trans hmem, fun j hj => ?_, hrnd⟩
  have hxj := hx j (by rw [hmem]; exact hj)
  rw [Nat.zero_add] at hxj
  rw [dispatched, if_pos hj]
  exact hxj

theorem dispatched_of_bound {s : State} (h : s.shadow.ledIndex < s.par.registerCount) :
    dispatched s s.shadow.ledIndex = s.x[s.shadow.ledIndex]? := by
  rw [dispatched, if_pos h, if_pos rfl]

theorem dispatched_of_ne {s : State} {j : Nat} (h : j < s.par.registerCount) (hne : j ≠ s.shadow.ledIndex) :
    dispatched s j = some (upcoming s.rnd (drawIndex s.shadow.ledIndex j)) := by
  rw [dispatched, if_pos h, if_neg hne]

/-- R98: the refresh leaves the bound register and what is outside the store. -/
theorem refresh_commit_changes {s : State} (hmem : Memory.wf s) (hled : s.shadow.ledIndex < s.par.registerCount)
    {j : Nat} (h : (refresh (commit s)).x[j]? ≠ s.x[j]?) : j ≠ s.shadow.ledIndex ∧ j < s.par.registerCount := by
  obtain ⟨hlen, hx, -⟩ := refresh_commit_spec hmem hled
  constructor
  · rintro rfl
    exact h ((hx _ hled).trans (dispatched_of_bound hled))
  · by_contra hj
    rw [List.getElem?_eq_none (by omega), List.getElem?_eq_none (by rw [hmem]; omega)] at h
    exact h rfl

/-- R183: the refresh depends on no register but the bound one. -/
theorem refresh_commit_congr {s : State} {y : List Word} (hmem : Memory.wf s) (hlen : y.length = s.x.length)
    (hled : s.shadow.ledIndex < s.par.registerCount) (hy : y[s.shadow.ledIndex]? = s.x[s.shadow.ledIndex]?) :
    refresh (commit { s with x := y }) = refresh (commit s) := by
  obtain ⟨hlens, hxs, hrnds⟩ := refresh_commit_spec hmem hled
  obtain ⟨hleny, hxy, hrndy⟩ := refresh_commit_spec (s := { s with x := y }) (hlen.trans hmem) hled
  have hx : (refresh (commit { s with x := y })).x = (refresh (commit s)).x := by
    refine List.ext_getElem? fun j => ?_
    rcases Nat.lt_or_ge j s.par.registerCount with hj | hj
    · rw [hxs j hj, hxy j hj]
      by_cases hb : j = s.shadow.ledIndex
      · subst hb
        rw [dispatched_of_bound hled]
        exact (dispatched_of_bound (s := { s with x := y }) hled).trans hy
      · rw [dispatched_of_ne hj hb]
        exact dispatched_of_ne (s := { s with x := y }) hj hb
    · rw [List.getElem?_eq_none (hleny.trans_le hj), List.getElem?_eq_none (hlens.trans_le hj)]
  calc refresh (commit { s with x := y })
      = { commit s with
          x := (refresh (commit { s with x := y })).x, rnd := (refresh (commit { s with x := y })).rnd } := rfl
    _ = { commit s with x := (refresh (commit s)).x, rnd := (refresh (commit s)).rnd } := by rw [hx, hrndy, hrnds]
    _ = refresh (commit s) := rfl

/-- R99: a draw lies in range, injected under the contract of the source or free. -/
theorem upcoming_in_range {src : Source} (h : ∀ d ∈ src.queue, 1 ≤ d.toNat ∧ d.toNat < 10000) (n : Nat) :
    1 ≤ (upcoming src n).toNat ∧ (upcoming src n).toNat < 10000 := by
  unfold upcoming
  split
  · next d hd => exact h d (List.mem_of_getElem? hd)
  · have := (Config.telemetry (src.taken + n)).isLt
    rw [BitVec.toNat_ofNat]
    omega

/-! ### Running the request in the buffer -/

/-- R111: in the phase in which the request in the buffer has its effect, the phase action is that request. -/
theorem phaseAction_of_executionPhase {s : State} (h : s.pc = executionPhase s.req.func) (tick : Bool) :
    phaseAction tick s = exec (requested s) s := by
  by_cases hread : s.req.func = 0x03
  · have hpc : s.pc = .execRead := by rw [h, hread]; rfl
    simp only [phaseAction, hpc]
  by_cases hwrite : s.req.func = 0x06
  · have hpc : s.pc = .execWrite := by rw [h, hwrite]; rfl
    simp only [phaseAction, hpc]
  · have hphase := executionPhase_of_ne hread hwrite
    have hpc : s.pc = .dispatch := h.trans hphase
    simp only [phaseAction, hpc, phaseDispatch, rqFc, hphase, if_true]

/-- R143: only `IDLE` looks at `tick`. -/
theorem phaseAction_of_busy {s : State} (h : s.pc ≠ .idle) (tick : Bool) :
    phaseAction tick s = phaseAction false s := by
  cases hpc : s.pc with
  | idle => exact absurd hpc h
  | _ => simp only [phaseAction, hpc]

/-- R140: active exactly for the value 1. -/
theorem active_eq (v : Word) : active v = decide (v.toNat = 1) := by
  rw [active, Bool.beq_eq_decide_eq]
  exact decide_eq_decide.mpr BitVec.toNat_inj.symm

end Sys2Proof.Machine

namespace Sys2Proof

open Machine

/-! ### Requests and phases -/

/-- Settles O26: the phase action of the executing phase is the request, without and with a cycle's inputs. -/
theorem stepRunsDecodedRequest : Obligations.StepRunsDecodedRequest := by
  intro s r _ hdecode hpc
  have hr : requested s = r.instr := by
    rw [← List.append_nil (frameBytes s.req), decode_frameBytes_append] at hdecode
    cases hdecode
    rfl
  refine ⟨fun henv => ?_, fun hrst hroom => ?_⟩
  · rw [step_of_no_input henv, phaseAction_of_executionPhase hpc, hr]
  · have hseen : phaseAction (portsNow s).tick (seen s) = exec r.instr (seen s) := by
      rw [← hr]
      exact phaseAction_of_executionPhase (s := seen s) hpc _
    rw [step_eq, if_pos hroom, hrst, hseen]
    rfl

/-- Settles O27: the frame of the word is in the buffer and the phase is the one in which it has its effect. -/
theorem fetchWordRunsNext : Obligations.FetchWordRunsNext := by
  intro s nbits w i hi henv
  rw [decodeTableWord_eq, Option.some_inj] at hi
  have henv' : (s.withFetchWord nbits w).env = [] := by simp [State.withFetchWord, readyToRun, henv]
  rw [step_of_no_input henv', phaseAction_of_executionPhase rfl, ← hi]
  rfl

/-- Settles O34: the bound register exists, so `OUTPUT` latches. -/
theorem outputProjectsAndLatches : Obligations.OutputProjectsAndLatches := by
  intro s v hpc henv hv
  rw [step_of_phaseStep henv (.latched hpc hv), ← active_eq]
  rfl

/-- Settles O38: the two cycles differ in a port that only `IDLE` looks at. -/
theorem tickIsIgnoredWhileBusy : Obligations.TickIsIgnoredWhileBusy := by
  intro s p later hpc
  have hact := phaseAction_of_busy (s := seen { s with env := { p with tick := true } :: later }) hpc true
  rw [step_eq]
  simp only [portsNow, hact]
  rfl

/-- Settles O39: the one transition of `IDLE`, between the arriving bytes and the strobes. -/
theorem idleChangesOnlyPendingCopies : Obligations.IdleChangesOnlyPendingCopies := by
  intro s t hpc hrst htick h
  have ht := step_eq_of_phaseStep h hrst (.idle hpc)
  rw [htick] at ht
  rw [ht, applyStrobes_frame]
  simp only [Bool.false_eq_true, if_false, ← hpc]
  rfl

/-! ### Reset -/

/-- Settles O35. -/
theorem resetOverridesEverything : Obligations.ResetOverridesEverything := by
  intro s hrst hroom
  exact ⟨resetEngine (seen s), step_eq_next_iff.mpr ⟨hroom, .inl ⟨hrst, rfl⟩⟩, rfl, rfl, rfl, rfl, rfl, rfl, rfl, rfl,
    rfl, rfl, rfl, rfl⟩

/-- Settles O36. -/
theorem resetValues : Obligations.ResetValues := by
  intro p
  exact ⟨rfl, resetWith_wf p, fun _ => List.eq_of_mem_replicate, rfl, rfl, rfl, rfl, rfl, rfl⟩

/-- Settles O57. -/
theorem eventCodesAreDistinct : Obligations.EventCodesAreDistinct := by
  constructor
  · intro e e' h
    cases e <;> cases e' <;> revert h <;> decide
  · intro e
    cases e <;> decide

/-! ### What a step leaves unchanged -/

/-- Settles O37: `REFRESH` alone commits, and the strobes come after the transition. -/
theorem settersActAtTheNextTick : Obligations.SettersActAtTheNextTick := by
  intro s t h hrst
  obtain ⟨u, hu, rfl⟩ := exists_phaseStep_of_step h hrst
  obtain ⟨hpar, hshadow, -⟩ := hu.frame
  have hstrobes := applyStrobes_shadow (portsNow s) u
  rw [hpar, hshadow] at hstrobes
  exact ⟨(applyStrobes_cfg _ _).trans hu.cfg_eq, hstrobes⟩

/-- Settles O40: a reset keeps the queue, and a transition takes at most its head. -/
theorem receiveQueueLosesOnlyItsHead : Obligations.ReceiveQueueLosesOnlyItsHead := by
  intro s t h
  obtain ⟨-, ⟨-, rfl⟩ | ⟨hrst, u, hu, rfl⟩⟩ := step_eq_next_iff.mp h
  · exact .inl rfl
  · obtain hq | ⟨hpc, hq⟩ := hu.rxq_eq
    · exact .inl ((applyStrobes_rxq _ _).trans hq)
    · exact .inr ⟨hpc, hrst, (applyStrobes_rxq _ _).trans hq⟩

/-- Settles O41: a reset keeps the sink, and a transition adds at most the response's next byte. -/
theorem sinkOnlyGrowsInEmit : Obligations.SinkOnlyGrowsInEmit := by
  intro s t h
  obtain ⟨-, ⟨-, rfl⟩ | ⟨-, u, hu, rfl⟩⟩ := step_eq_next_iff.mp h
  · exact .inl rfl
  · rw [applyStrobes_txq]
    exact hu.txq_eq

/-- Settles O42. -/
theorem statusChangesOnlyInOutput : Obligations.StatusChangesOnlyInOutput := by
  intro s t h
  obtain ⟨-, ⟨hreset, rfl⟩ | ⟨-, u, hu, rfl⟩⟩ := step_eq_next_iff.mp h
  · exact ⟨rfl, fun _ hrst => by rw [hrst] at hreset; cases hreset⟩
  · obtain ⟨hpar, -⟩ := hu.frame
    rw [applyStrobes_par, applyStrobes_outcome, applyStrobes_oorInfo, applyStrobes_dout]
    exact ⟨hpar, fun hpc _ => hu.status_eq hpc⟩

/-! ### The registers -/

/-- Settles O32: `REFRESH` is the refresh of the committed configuration. -/
theorem refreshDrawsInAscendingOrder : Obligations.RefreshDrawsInAscendingOrder := by
  intro s hpc henv hmem hled
  obtain ⟨hlen, hx, hrnd⟩ := refresh_commit_spec hmem hled
  refine ⟨_, hlen, hx, ?_⟩
  rw [step_of_phaseStep henv (.refreshed hpc), ← hrnd]
  rfl

/-- Settles O33: every register but the bound one holds a draw. -/
theorem refreshedRegistersLieInRange : Obligations.RefreshedRegistersLieInRange := by
  intro s t hpc hmem hled hsource hrst h j v hv hj
  have ht := step_eq_of_phaseStep h hrst (.refreshed hpc)
  obtain ⟨hlen, hx, -⟩ := refresh_commit_spec (s := seen s) hmem hled
  rw [ht, applyStrobes_x, gotoPhase_x] at hv
  rw [ht, applyStrobes_cfg] at hj
  have hjlt : j < s.par.registerCount := by
    obtain ⟨hj', -⟩ := List.getElem?_eq_some_iff.mp hv
    exact hj'.trans_eq hlen
  rw [hx j hjlt, dispatched_of_ne (s := seen s) hjlt hj, Option.some_inj] at hv
  rw [← hv]
  exact upcoming_in_range hsource _

/-- Settles O43: of the transitions that reach the register file, the refresh leaves the bound register, and by the
invariant only `EXEC_WRITE` runs a Write. -/
theorem registerWritersAreComplete : Obligations.RegisterWritersAreComplete := by
  intro s t hs h hrst
  obtain ⟨-, hmem, -, hled, -⟩ := id hs
  obtain ⟨u, hu, rfl⟩ := exists_phaseStep_of_step h hrst
  rw [applyStrobes_x, applyStrobes_cfg]
  obtain hx | ⟨hpc, rfl⟩ | ⟨hpc, hex⟩ := hu.x_eq
  · exact ⟨congrArg List.length hx, fun j hj => absurd (congrArg (·[j]?) hx) hj⟩
  · obtain ⟨hlen, -⟩ := refresh_commit_spec (s := seen s) hmem hled
    refine ⟨hlen.trans hmem.symm, fun j hj => .inl ?_⟩
    obtain ⟨hne, hlt⟩ := refresh_commit_changes (s := seen s) hmem hled hj
    exact ⟨hpc, hne, hlt⟩
  · rcases hpc with hpc | hpc
    · have hfunc : s.req.func = 0x03 := inv_execRead hs hpc
      rw [requested_of_read (s := seen s) hfunc] at hex
      have hx : u.x = s.x := by
        cases hex with
        | readRejected => rfl
        | readAccepted => rfl
        | ignored hi => simp at hi
      exact ⟨congrArg List.length hx, fun j hj => absurd (congrArg (·[j]?) hx) hj⟩
    · have hfunc : s.req.func = 0x06 := inv_execWrite hs hpc
      rw [requested_of_write (s := seen s) hfunc] at hex
      cases hex with
      | writeOutOfRange => exact ⟨rfl, fun j hj => absurd rfl hj⟩
      | ignored hi => simp at hi
      | writeStored hlt =>
        obtain ⟨hself, hother⟩ := getElem?_set_of_wf hmem hlt (rqP2 s)
        refine ⟨List.length_set, fun j hj => .inr ?_⟩
        have hjeq : j = (rqP1 s).toNat := by
          by_contra hne
          exact hj (hother j hne)
        subst hjeq
        exact ⟨hpc, hfunc, rfl, hlt, hself⟩

/-- Settles O44: both states refresh to the same one; `rst` and an overflow look at no register. -/
theorem telemetryValuesDoNotLast : Obligations.TelemetryValuesDoNotLast := by
  intro s y hpc hmem hlen hled hy
  have hrefresh := refresh_commit_congr (s := seen s) hmem hlen hled hy
  have hact : phaseAction (portsNow s).tick (seen { s with x := y }) = phaseAction (portsNow s).tick (seen s) := by
    rw [phaseAction_of_phaseStep (s := seen s) (.refreshed hpc),
      phaseAction_of_phaseStep (s := seen { s with x := y }) (.refreshed hpc)]
    exact congrArg (fun u => Host.Outcome.next (gotoPhase .gate u)) hrefresh
  calc step { s with x := y }
      = if hasRoom s (portsNow s).rx then
          if (portsNow s).rst then .next (resetEngine (seen s))
          else thenDo (phaseAction (portsNow s).tick (seen { s with x := y })) fun t =>
            .next (applyStrobes (portsNow s) t)
        else .refused .rxOverflow := rfl
    _ = step s := by rw [hact, step_eq]

end Sys2Proof
end

section
/-! The transition table, row by row (spec/45_polling_loop_fsm.md R146). -/

namespace Sys2Proof.Machine

/-- R88: the CRC check of a frame compares the CRC of its first six bytes with the word in bytes 6 and 7. -/
theorem crcVerify_eq_true_iff (f : Frame) :
    crcVerify (frameBytes f) 6 = some true ↔ crc16 (frameBody f) = join f.crcHi f.crcLo := by
  rw [crcVerify_frame, Option.some_inj, beq_iff_eq]

theorem crcVerify_eq_false_iff (f : Frame) :
    crcVerify (frameBytes f) 6 = some false ↔ crc16 (frameBody f) ≠ join f.crcHi f.crcLo := by
  rw [crcVerify_frame, Option.some_inj, beq_eq_false_iff_ne]

/-- In `EXEC_READ` the invariant has a Read in the buffer, and both its outcomes are transitions (R113, R114). -/
theorem phaseStep_execRead {s : State} (hs : Inv s) (hpc : s.pc = .execRead) (tick : Bool) :
    ((rqP1 s).toNat + (rqP2 s).toNat ≤ s.par.registerCount → (rqP2 s).toNat ≤ s.par.maxReadCount →
      ∃ u, PhaseStep tick s u ∧ u.pc = .emit ∧ u.out = .readOk) ∧
    (s.par.registerCount < (rqP1 s).toNat + (rqP2 s).toNat ∨ s.par.maxReadCount < (rqP2 s).toNat →
      ∃ u, PhaseStep tick s u ∧ u.pc = .drain ∧ u.out = .outOfRangeRead) := by
  obtain ⟨-, hmem, -⟩ := id hs
  have hrq := requested_of_read (inv_execRead hs hpc)
  constructor
  · intro hstore hcap
    have hex := Executes.readAccepted hstore hcap (memRead_of_le hmem hstore)
    rw [← hrq] at hex
    exact ⟨_, .executed (.inl hpc) hex, rfl, rfl⟩
  · intro hr
    have hex := Executes.readRejected hr
    rw [← hrq] at hex
    exact ⟨_, .executed (.inl hpc) hex, rfl, rfl⟩

/-- In `EXEC_WRITE` the invariant has a Write in the buffer, and both its outcomes are transitions (R115, R116). -/
theorem phaseStep_execWrite {s : State} (hs : Inv s) (hpc : s.pc = .execWrite) (tick : Bool) :
    ((rqP1 s).toNat < s.par.registerCount → ∃ u, PhaseStep tick s u ∧ u.pc = .emit ∧ u.out = .writeOk) ∧
    (s.par.registerCount ≤ (rqP1 s).toNat →
      ∃ u, PhaseStep tick s u ∧ u.pc = .emit ∧ u.out = .writeOutOfRangeAck) := by
  have hrq := requested_of_write (inv_execWrite hs hpc)
  constructor
  · intro hlt
    have hex := Executes.writeStored (value := rqP2 s) hlt
    rw [← hrq] at hex
    exact ⟨_, .executed (.inr hpc) hex, rfl, rfl⟩
  · intro hge
    have hex := Executes.writeOutOfRange (value := rqP2 s) hge
    rw [← hrq] at hex
    exact ⟨_, .executed (.inr hpc) hex, rfl, rfl⟩

/-- In `CONSUME` the invariant has a byte to take (R104). -/
theorem phaseStep_consume {s : State} (hs : Inv s) (hpc : s.pc = .consume) (tick : Bool) :
    ∃ u, PhaseStep tick s u ∧ u.pc = (if u.k = 8 then .checkAddr else .consume) ∧ u.k = s.k + 1 ∧ u.out = s.out := by
  obtain ⟨hk, hlen⟩ := inv_consume hs hpc
  obtain ⟨b, rest, hq⟩ := List.exists_cons_of_length_pos (l := s.rxq) (by omega)
  refine ⟨_, .byteTaken hpc hk hq, ?_, rfl, rfl⟩
  by_cases hlast : s.k + 1 = 8
  · simp [hlast]
  · simp [hlast, show s.k + 1 < 8 by omega]

/-- In `EMIT` the invariant has a byte to send (R128, R135). -/
theorem phaseStep_emit {s : State} (hs : Inv s) (hpc : s.pc = .emit) (tick : Bool) :
    ∃ u, PhaseStep tick s u ∧ u.pc = (if u.k = u.resp.length then .drain else .emit) ∧ u.k = s.k + 1 ∧
      u.out = s.out := by
  obtain ⟨hk, -⟩ := inv_emit hs hpc
  refine ⟨_, .byteSent hpc (List.getElem?_eq_getElem hk), ?_, rfl, rfl⟩
  by_cases hlast : s.k + 1 = s.resp.length
  · simp [hlast]
  · simp [hlast, show s.k + 1 < s.resp.length by omega]

end Sys2Proof.Machine

namespace Sys2Proof

open Machine

/-- Settles O28: each row is a transition under its condition, and a phase has one transition only. -/
theorem phaseTransitionsFollowTheTable : Obligations.PhaseTransitionsFollowTheTable := by
  intro s t hs h
  have hseen : Inv (seen s) := inv_seen hs (step_eq_next_iff.mp h).1
  constructor
  · intro hreset
    obtain ⟨-, ⟨-, rfl⟩ | ⟨hrst, -⟩⟩ := step_eq_next_iff.mp h
    · rfl
    · rw [hreset] at hrst; cases hrst
  intro hrst
  have row {u : State} (hu : PhaseStep (portsNow s).tick (seen s) u) : t.pc = u.pc ∧ t.out = u.out := by
    rw [step_eq_of_phaseStep h hrst hu, applyStrobes_pc, applyStrobes_out]
    exact ⟨rfl, rfl⟩
  refine ⟨fun hpc => (row (.idle hpc) :), fun hpc => (row (.refreshed hpc) :),
    fun hpc hlen => (row (.frameWaits hpc hlen) :), fun hpc hlen => (row (.frameIncomplete hpc hlen) :), ?consume,
    fun hpc haddr => (row (.addrMatches hpc haddr) :), fun hpc haddr => (row (.addrDiffers hpc haddr) :),
    fun hpc hcrc => (row (.crcMatches hpc ((crcVerify_eq_true_iff _).mp hcrc)) :),
    fun hpc hcrc => (row (.crcDiffers hpc ((crcVerify_eq_false_iff _).mp hcrc)) :),
    fun hpc hfunc => (row (.selectsRead hpc hfunc) :), fun hpc hfunc => (row (.selectsWrite hpc hfunc) :),
    fun hpc hread hwrite => (row (.selectsNothing hpc hread hwrite) :), ?readAccepted, ?readRejected, ?writeStored,
    ?writeOutOfRange, ?emit, fun hpc hq => (row (.drained hpc hq) :), ?byteDropped, ?output⟩
  case consume =>
    intro hpc
    obtain ⟨u, hu, hrow⟩ := phaseStep_consume hseen hpc (portsNow s).tick
    rw [step_eq_of_phaseStep h hrst hu]
    simpa using hrow
  case readAccepted =>
    intro hpc hstore hcap
    obtain ⟨u, hu, hupc, huout⟩ := (phaseStep_execRead hseen hpc (portsNow s).tick).1 hstore hcap
    rw [← hupc, ← huout]
    exact row hu
  case readRejected =>
    intro hpc hr
    obtain ⟨u, hu, hupc, huout⟩ := (phaseStep_execRead hseen hpc (portsNow s).tick).2 hr
    rw [← hupc, ← huout]
    exact row hu
  case writeStored =>
    intro hpc hlt
    obtain ⟨u, hu, hupc, huout⟩ := (phaseStep_execWrite hseen hpc (portsNow s).tick).1 hlt
    rw [← hupc, ← huout]
    exact row hu
  case writeOutOfRange =>
    intro hpc hge
    obtain ⟨u, hu, hupc, huout⟩ := (phaseStep_execWrite hseen hpc (portsNow s).tick).2 hge
    rw [← hupc, ← huout]
    exact row hu
  case emit =>
    intro hpc
    obtain ⟨u, hu, hrow⟩ := phaseStep_emit hseen hpc (portsNow s).tick
    rw [step_eq_of_phaseStep h hrst hu]
    simpa using hrow
  case byteDropped =>
    intro hpc hne
    obtain ⟨b, rest, hq⟩ := List.exists_cons_of_ne_nil hne
    rw [step_eq_of_phaseStep h hrst (.byteDropped hpc hq), hq]
    simpa using hpc
  case output =>
    intro hpc
    obtain ⟨-, hmem, hled, -⟩ := hseen
    obtain ⟨v, hv⟩ := exists_getElem?_of_wf hmem hled
    exact row (.latched hpc hv)

end Sys2Proof
end

section
/-! Runs: the phases that move one byte a step, and a bound on the steps of a running tick
(spec/45_polling_loop_fsm.md R104, R128, R136, R138, R142). -/

namespace Sys2Proof.Machine

/-- A run that goes on: `m` steps, then `n` more from where they lead. -/
theorem run_add {m : Nat} {s t : State} (h : run m s = .next t) (n : Nat) : run (m + n) s = run n t := by
  induction m generalizing s with
  | zero =>
    cases h
    rw [Nat.zero_add]
  | succ m ih =>
    rw [run_succ, thenDo_eq_next] at h
    obtain ⟨u, hu, hrun⟩ := h
    rw [Nat.add_right_comm, run_next hu, ih hrun]

/-! ### CONSUME -/

/-- The request buffer after bytes are put into it from offset `k` on (R104). -/
def setBytes (f : Frame) (k : Nat) : List Byte → Frame
  | [] => f
  | b :: bs => setBytes (setByte f k b) (k + 1) bs

theorem setBytes_frameBytes (f g : Frame) : setBytes f 0 (frameBytes g) = g := by
  simp [frameBytes, setBytes, setByte]

/-- The rest of `CONSUME`, from any byte on: `bs` are the bytes up to the eighth. -/
theorem run_consume {bs rest : List Byte} {s : State} (hpc : s.pc = if s.k < 8 then .consume else .checkAddr)
    (henv : s.env = []) (hq : s.rxq = bs ++ rest) (hlen : s.k + bs.length = 8) :
    run bs.length s = .next { s with req := setBytes s.req s.k bs, rxq := rest, k := 8, pc := .checkAddr } := by
  induction bs generalizing s with
  | nil =>
    have hk : s.k = 8 := hlen
    rw [hk, if_neg (by decide)] at hpc
    cases s
    simp_all [setBytes]
  | cons b bs ih =>
    have hk : s.k < 8 := by rw [List.length_cons] at hlen; omega
    rw [if_pos hk] at hpc
    rw [List.length_cons, run_next (step_of_phaseStep henv (.byteTaken hpc hk hq)), ih]
    · rfl
    · rfl
    · exact henv
    · rfl
    · rw [List.length_cons] at hlen
      show s.k + 1 + bs.length = 8
      omega

/-! ### EMIT -/

/-- The rest of `EMIT`, from byte `k` on, with `n` bytes to send. -/
theorem run_emit {n : Nat} {s : State} (hpc : s.pc = if s.k < s.resp.length then .emit else .drain)
    (henv : s.env = []) (hn : s.k + n = s.resp.length) :
    run n s = .next { s with txq := s.txq ++ s.resp.drop s.k, k := s.resp.length, pc := .drain } := by
  induction n generalizing s with
  | zero =>
    have hk : s.k = s.resp.length := hn
    rw [hk, if_neg (Nat.lt_irrefl _)] at hpc
    cases s
    simp_all
  | succ n ih =>
    have hk : s.k < s.resp.length := by omega
    rw [if_pos hk] at hpc
    rw [run_next (step_of_phaseStep henv (.byteSent hpc (List.getElem?_eq_getElem hk))), ih]
    · rw [List.drop_eq_getElem_cons hk]
      simp [sinkWrite]
    · rfl
    · exact henv
    · show s.k + 1 + n = s.resp.length
      omega

/-! ### DRAIN -/

theorem run_drain {s : State} (hpc : s.pc = .drain) (henv : s.env = []) :
    run (s.rxq.length + 1) s = .next { s with rxq := [], pc := .output } := by
  generalize hq : s.rxq = q
  induction q generalizing s with
  | nil =>
    rw [List.length_nil, Nat.zero_add, run_next (step_of_phaseStep henv (.drained hpc hq)), ← hq]
    rfl
  | cons b rest ih =>
    rw [List.length_cons, run_next (step_of_phaseStep henv (.byteDropped hpc hq)), ih]
    · exact hpc
    · exact henv
    · rfl

/-- Log 3: a byte that arrives in a cycle of the drain takes the place of the one removed. -/
theorem step_drain_arrival {s : State} {b : Byte} (hpc : s.pc = .drain) (hcap : s.par.rxCap = none)
    (hports : portsNow s = { PortIn.idle with rx := [b] }) :
    ∃ t, step s = .next t ∧ t.pc = .drain ∧ t.par = s.par ∧ t.rxq.length = s.rxq.length ∧ t.env = s.env.tail := by
  obtain ⟨c, rest, hq⟩ := List.exists_cons_of_length_pos (l := s.rxq ++ [b]) (by simp)
  have hseen : (seen s).rxq = c :: rest := by rw [seen_rxq, hports]; exact hq
  have hstep : PhaseStep (portsNow s).tick (seen s) { seen s with rxq := rest } := .byteDropped hpc hseen
  have hroom : hasRoom s (portsNow s).rx = true := by simp only [hasRoom, hcap]
  have hrst : (portsNow s).rst = false := by rw [hports]; rfl
  refine ⟨_, step_eq_next_iff.mpr ⟨hroom, .inr ⟨hrst, _, hstep, rfl⟩⟩, ?_, ?_, ?_, ?_⟩
  · rw [applyStrobes_pc]; exact hpc
  · rw [applyStrobes_par]; rfl
  · have hlen := congrArg List.length hq
    rw [List.length_append, List.length_singleton, List.length_cons] at hlen
    rw [applyStrobes_rxq]
    exact (Nat.succ.inj hlen).symm
  · rw [applyStrobes_env]; rfl

/-! ### A bound on the steps of a tick -/

/-- The bytes that a tick may still have to drain: those buffered and those to come (R138). -/
def bytesLeft (s : State) : Nat := s.rxq.length + arriving s

/-- The most steps the phases up to `OUTPUT` still take, beside those that drain a byte. -/
def phaseStepsLeft (s : State) : Nat :=
  match s.pc with
  | .idle => 0
  | .refresh => 16 + s.par.respCap
  | .gate => 15 + s.par.respCap
  | .consume => 6 + s.par.respCap + (8 - s.k)
  | .checkAddr => 6 + s.par.respCap
  | .checkCrc => 5 + s.par.respCap
  | .dispatch => 4 + s.par.respCap
  | .execRead => 3 + s.par.respCap
  | .execWrite => 3 + s.par.respCap
  | .emit => 2 + (s.resp.length - s.k)
  | .drain => 2
  | .output => 1

/-- A bound on the steps a running tick still takes. -/
def stepsLeft (s : State) : Nat := phaseStepsLeft s + bytesLeft s

theorem phaseStepsLeft_pos {s : State} (h : s.pc ≠ .idle) : 0 < phaseStepsLeft s := by
  unfold phaseStepsLeft
  cases hpc : s.pc with
  | idle => exact absurd hpc h
  | _ => simp only; omega

theorem phaseStepsLeft_le {s : State} (hs : Inv s) : phaseStepsLeft s ≤ 16 + s.par.respCap := by
  obtain ⟨-, -, -, -, hresp, -⟩ := hs
  unfold phaseStepsLeft
  cases s.pc <;> simp only <;> omega

/-- The arriving bytes were counted as bytes to come. -/
theorem bytesLeft_seen (s : State) : bytesLeft (seen s) = bytesLeft s := by
  rw [bytesLeft, bytesLeft, arriving_seen s, seen_rxq, List.length_append, Nat.add_assoc]

theorem bytesLeft_applyStrobes (p : PortIn) (s : State) : bytesLeft (applyStrobes p s) = bytesLeft s := by
  rw [bytesLeft, bytesLeft, arriving, arriving, applyStrobes_rxq, applyStrobes_env]

theorem phaseStepsLeft_seen (s : State) : phaseStepsLeft (seen s) = phaseStepsLeft s := rfl

theorem phaseStepsLeft_applyStrobes (p : PortIn) (s : State) :
    phaseStepsLeft (applyStrobes p s) = phaseStepsLeft s := by
  simp only [phaseStepsLeft, applyStrobes_pc, applyStrobes_par, applyStrobes_k, applyStrobes_resp]

theorem PhaseStep.bytesLeft_le {tick : Bool} {s t : State} (h : PhaseStep tick s t) : bytesLeft t ≤ bytesLeft s := by
  obtain ⟨-, -, henv⟩ := h.frame
  have hrxq : t.rxq.length ≤ s.rxq.length := by
    obtain hq | ⟨-, hq⟩ := h.rxq_eq
    · rw [hq]
    · rw [hq, List.length_tail]; omega
  rw [bytesLeft, bytesLeft, arriving, arriving, henv]
  omega

/-- After a request either its response is to be sent from the first byte on, or the drain runs (R111). -/
theorem Executes.pc_eq {i : Instr} {s t : State} (h : Executes s i t) :
    t.pc = .drain ∨ (t.pc = .emit ∧ t.k = 0) := by
  cases h with
  | readRejected => exact .inl rfl
  | ignored => exact .inl rfl
  | _ => exact .inr ⟨rfl, rfl⟩

/-- Every transition of a running tick ends it, or takes a step off the bound. -/
theorem PhaseStep.stepsLeft_lt {tick : Bool} {s t : State} (hs : Inv s) (hbusy : s.pc ≠ .idle)
    (h : PhaseStep tick s t) : (t.pc = .idle ∧ t.done = true) ∨ (t.pc ≠ .idle ∧ stepsLeft t < stepsLeft s) := by
  have hbytes := h.bytesLeft_le
  obtain ⟨-, -, -, -, hresp, -⟩ := inv_phaseStep hs h
  suffices hphase : (t.pc = .idle ∧ t.done = true) ∨ (t.pc ≠ .idle ∧ phaseStepsLeft t < phaseStepsLeft s) ∨
      (t.pc ≠ .idle ∧ phaseStepsLeft t = phaseStepsLeft s ∧ bytesLeft t < bytesLeft s) by
    unfold stepsLeft
    obtain hdone | ⟨hpc, hlt⟩ | ⟨hpc, heq, hlt⟩ := hphase
    · exact .inl hdone
    · exact .inr ⟨hpc, by omega⟩
    · exact .inr ⟨hpc, by omega⟩
  cases h with
  | idle hpc => exact absurd hpc hbusy
  | latched hpc _ => exact .inl ⟨rfl, rfl⟩
  | byteDropped hpc hq =>
    refine .inr (.inr ⟨by simp [hpc], by simp [phaseStepsLeft, hpc], ?_⟩)
    simp [bytesLeft, arriving, hq]
  | byteTaken hpc hk hq =>
    refine .inr (.inl ?_)
    by_cases hk' : s.k + 1 < 8
    · simp only [phaseStepsLeft, hpc, hk', if_true, ne_eq, reduceCtorEq, not_false_eq_true, true_and]
      omega
    · simp only [phaseStepsLeft, hpc, hk', if_false, ne_eq, reduceCtorEq, not_false_eq_true, true_and]
      omega
  | byteSent hpc hb =>
    have hk : s.k < s.resp.length := (List.getElem?_eq_some_iff.mp hb).1
    refine .inr (.inl ?_)
    by_cases hk' : s.k + 1 < s.resp.length
    · simp only [phaseStepsLeft, hpc, hk', if_true, ne_eq, reduceCtorEq, not_false_eq_true, true_and, sinkWrite_resp]
      omega
    · simp only [phaseStepsLeft, hpc, hk', if_false, ne_eq, reduceCtorEq, not_false_eq_true, true_and]
      omega
  | allSent hpc hk =>
    exact absurd (inv_emit hs hpc).1 (Nat.not_lt.mpr hk)
  | allTaken hpc hk =>
    exact absurd (inv_consume hs hpc).1 (Nat.not_lt.mpr hk)
  | executed hpc hex =>
    obtain ⟨hpar, -⟩ := requestFrame _ _ _ (exec_of_executes hex)
    have hexec : phaseStepsLeft s = 3 + s.par.respCap := by
      rcases hpc with hpc | hpc <;> simp [phaseStepsLeft, hpc]
    rw [hpar] at hresp
    refine .inr (.inl ?_)
    obtain htpc | ⟨htpc, hk⟩ := hex.pc_eq
    · refine ⟨by simp [htpc], ?_⟩
      rw [hexec, phaseStepsLeft, htpc]
      show 2 < 3 + s.par.respCap
      omega
    · refine ⟨by simp [htpc], ?_⟩
      rw [hexec, phaseStepsLeft, htpc, hk]
      show 2 + (t.resp.length - 0) < 3 + s.par.respCap
      omega
  | _ hpc =>
    refine .inr (.inl ⟨by simp, ?_⟩)
    simp only [phaseStepsLeft, hpc, gotoPhase, raiseEvent, refresh, commit]
    omega

/-- D19: where all bytes still to come have room, those of this cycle have. -/
theorem hasRoom_of_bytesLeft {s : State} (h : s.par.rxCap.all fun c => bytesLeft s ≤ c) :
    hasRoom s (portsNow s).rx = true := by
  unfold hasRoom
  cases hcap : s.par.rxCap with
  | none => rfl
  | some c =>
    have hc : bytesLeft s ≤ c := by simpa [hcap] using h
    rw [bytesLeft, arriving_seen s] at hc
    simp only [Bool.or_eq_true, decide_eq_true_eq]
    exact .inr (by omega)

theorem portsNow_rst {s : State} (h : ∀ p ∈ s.env, p.rst = false) : (portsNow s).rst = false := by
  unfold portsNow
  split
  · rfl
  · next p ps henv => exact h p (by rw [henv]; exact List.mem_cons_self)

/-- A step of a running tick ends it or takes a step off the bound, and keeps what the next step needs. -/
theorem step_stepsLeft_lt {s : State} (hs : Inv s) (hbusy : s.pc ≠ .idle) (hrst : ∀ p ∈ s.env, p.rst = false)
    (hcap : s.par.rxCap.all fun c => bytesLeft s ≤ c) :
    ∃ t, step s = .next t ∧
      ((t.pc = .idle ∧ t.done = true) ∨
        (t.pc ≠ .idle ∧ stepsLeft t < stepsLeft s ∧ (∀ p ∈ t.env, p.rst = false) ∧
          t.par.rxCap.all fun c => bytesLeft t ≤ c)) := by
  have hroom := hasRoom_of_bytesLeft hcap
  have hseen := inv_seen hs hroom
  obtain ⟨u, hu⟩ := exists_phaseStep hseen (portsNow s).tick
  obtain ⟨hpar, -, henv⟩ := hu.frame
  refine ⟨_, step_eq_next_iff.mpr ⟨hroom, .inr ⟨portsNow_rst hrst, u, hu, rfl⟩⟩, ?_⟩
  rw [applyStrobes_pc, applyStrobes_done, stepsLeft, phaseStepsLeft_applyStrobes, bytesLeft_applyStrobes,
    applyStrobes_env, applyStrobes_par, henv, hpar]
  obtain hdone | ⟨hpc, hlt⟩ := hu.stepsLeft_lt hseen hbusy
  · exact .inl hdone
  · rw [stepsLeft, stepsLeft, phaseStepsLeft_seen, bytesLeft_seen] at hlt
    have hle : bytesLeft u ≤ bytesLeft s := bytesLeft_seen s ▸ hu.bytesLeft_le
    exact .inr ⟨hpc, hlt, fun p hp => hrst p (List.mem_of_mem_tail hp), fits_of_le hcap hle⟩

/-- R142: a running tick ends within the bound. -/
theorem run_reaches_idle {n : Nat} {s : State} (hs : Inv s) (hbusy : s.pc ≠ .idle) (hrst : ∀ p ∈ s.env, p.rst = false)
    (hcap : s.par.rxCap.all fun c => bytesLeft s ≤ c) (hn : stepsLeft s ≤ n) :
    ∃ m t, m ≤ n ∧ run m s = .next t ∧ t.pc = .idle ∧ t.done = true := by
  induction n generalizing s with
  | zero =>
    have hpos := phaseStepsLeft_pos hbusy
    rw [stepsLeft] at hn
    omega
  | succ n ih =>
    obtain ⟨t, hstep, hdone | ⟨hpc, hlt, hrst', hcap'⟩⟩ := step_stepsLeft_lt hs hbusy hrst hcap
    · exact ⟨1, t, by omega, run_next hstep, hdone⟩
    · obtain ⟨m, u, hm, hrun, hu⟩ := ih (inv_step hs hstep) hpc hrst' hcap' (by omega)
      exact ⟨m + 1, u, by omega, (run_next hstep).trans hrun, hu⟩

end Sys2Proof.Machine

namespace Sys2Proof

open Machine

/-- Settles O29: eight bytes put into the buffer from the first on are the buffer. -/
theorem consumeTakesTheEightOldestBytes : Obligations.ConsumeTakesTheEightOldestBytes := by
  intro s f rest hpc hk henv hq
  have hstart : s.pc = if s.k < 8 then .consume else .checkAddr := by rw [hk, hpc]; rfl
  have hrun := run_consume hstart henv hq (by rw [hk]; rfl)
  rw [hk, setBytes_frameBytes] at hrun
  exact hrun

/-- Settles O30. -/
theorem emitHandsOverTheWholeResponse : Obligations.EmitHandsOverTheWholeResponse := by
  intro s hpc hk henv hresp
  have hstart : s.pc = if s.k < s.resp.length then .emit else .drain := by
    rw [hk, if_pos (List.length_pos_iff.mpr hresp), hpc]
  have hrun := run_emit hstart henv (n := s.resp.length) (by rw [hk, Nat.zero_add])
  rw [hk, List.drop_zero] at hrun
  exact hrun

/-- Settles O31. -/
theorem drainEmptiesTheQueue : Obligations.DrainEmptiesTheQueue :=
  fun _ => run_drain

/-- Settles O58: the bound covers the phases, and each byte buffered or to come. -/
theorem tickEndsIfFinitelyManyBytesArrive : Obligations.TickEndsIfFinitelyManyBytesArrive := by
  intro s hs hbusy hrst hcap
  have hphases := phaseStepsLeft_le hs
  refine run_reaches_idle hs hbusy hrst hcap ?_
  rw [stepsLeft, bytesLeft]
  omega

/-- Settles O48: with no input to come no byte comes and no `rst`, and the buffered ones fit. -/
theorem runningTickReachesIdle : Obligations.RunningTickReachesIdle := by
  intro s hs henv hbusy
  have harr := arriving_of_no_input henv
  obtain ⟨-, -, -, -, -, hrx, -⟩ := id hs
  have hcap : s.par.rxCap.all fun c => s.rxq.length + arriving s ≤ c := by rwa [harr]
  have hrst : ∀ p ∈ s.env, p.rst = false := by simp [henv]
  have hends := tickEndsIfFinitelyManyBytesArrive s hs hbusy hrst hcap
  rwa [harr] at hends

/-- Settles O59: each step removes one byte and finds another. -/
theorem drainLastsWhileBytesArrive : Obligations.DrainLastsWhileBytesArrive := by
  intro s b n
  induction n generalizing s with
  | zero =>
    intro hpc _ henv
    exact ⟨s, run_zero s, hpc, rfl, henv⟩
  | succ n ih =>
    intro hpc hcap henv
    have hports : portsNow s = { PortIn.idle with rx := [b] } := by rw [portsNow, henv]; rfl
    obtain ⟨t, hstep, htpc, htpar, htlen, htenv⟩ := step_drain_arrival hpc hcap hports
    obtain ⟨u, hrun, hupc, hulen, huenv⟩ := ih t htpc (by rw [htpar, hcap]) (by rw [htenv, henv]; rfl)
    exact ⟨u, (run_next hstep).trans hrun, hupc, hulen.trans htlen, huenv⟩

end Sys2Proof
end

section
/-! Whole ticks: what the tick of the pseudocode does with the bytes it finds (spec/45_polling_loop_fsm.md R131,
spec/42_frame_decoder.md R103 to R108, spec/60_exceptions.md R165). -/

namespace Sys2Proof.Machine

/-! ### The refreshed state a tick begins with -/

/-- The state after step 0 and the refresh of a tick (R131). -/
def tickStart (s : State) : State := refresh (commit { s with done := false })

/-- The state in which a tick has taken the frame `f` from the queue and left `rest` (R131). -/
def tickTaken (s : State) (f : Frame) (rest : List Byte) : State := { tickStart s with req := f, k := 8, rxq := rest }

theorem tick_of_short {s : State} (h : s.rxq.length < 8) :
    tick s = phaseOutput (raiseEvent .frameIncomplete 0 .output (tickStart s)) :=
  if_neg (Nat.not_le.mpr h)

theorem tick_of_frame {s : State} {f : Frame} {rest : List Byte} (h : s.rxq = frameBytes f ++ rest) :
    tick s = thenDo (checkAndExecute (tickTaken s f rest)) fun t => phaseOutput (drainAll (emitResponse t)) := by
  have hrxq : (refresh (commit { s with done := false })).rxq = frameBytes f ++ rest := h
  have hlen : 8 ≤ avail (refresh (commit { s with done := false })) := by
    rw [avail, hrxq, List.length_append, frameBytes_length]
    omega
  rw [tick, if_pos hlen, hrxq, takeFrame_frameBytes]
  rfl

/-- The dispatcher sees the refreshed registers (R58, R98). -/
theorem tickStart_spec {s : State} (hs : Inv s) :
    Memory.wf (tickStart s) ∧ ∀ j, j < s.par.registerCount → (tickStart s).x[j]? = dispatched s j := by
  obtain ⟨-, hmem, -, hled, -⟩ := hs
  obtain ⟨hlen, hx, -⟩ := refresh_commit_spec (s := { s with done := false }) hmem hled
  exact ⟨hlen, hx⟩

/-! ### The checks and the request -/

/-- The outcomes of the checks and the request, on the state `s` that holds the frame taken (R105, R106, R111). -/
inductive Checked (s : State) : State → Prop
  | foreign (haddr : s.req.addr ≠ s.cfg.slaveAddr) : Checked s (raiseEvent .addressMismatch 0 .drain s)
  | corrupt (haddr : s.req.addr = s.cfg.slaveAddr) (hcrc : crc16 (frameBody s.req) ≠ rqCrc s) :
      Checked s { raiseEvent .crcMismatch 0 .drain s with crc := crc16 (frameBody s.req) }
  | executed {t : State} (haddr : s.req.addr = s.cfg.slaveAddr) (hcrc : crc16 (frameBody s.req) = rqCrc s)
      (h : Executes { s with crc := crc16 (frameBody s.req) } (requested s) t) : Checked s t

theorem checkAndExecute_eq_next_iff {s t : State} : checkAndExecute s = .next t ↔ Checked s t := by
  constructor
  · intro h
    unfold checkAndExecute at h
    split at h
    · next haddr => cases h; exact .foreign haddr
    · next haddr =>
      rw [ne_eq, not_not] at haddr
      split at h
      · next hcrc => exact .executed haddr ((crcVerify_eq_true_iff _).mp hcrc) (executes_of_exec h)
      · next hcrc => cases h; exact .corrupt haddr ((crcVerify_eq_false_iff _).mp hcrc)
      · cases h
  · intro h
    unfold checkAndExecute
    cases h with
    | foreign haddr => rw [if_pos haddr]
    | corrupt haddr hcrc => rw [if_neg (not_not.mpr haddr), (crcVerify_eq_false_iff _).mpr hcrc]
    | executed haddr hcrc hex =>
      rw [if_neg (not_not.mpr haddr), (crcVerify_eq_true_iff _).mpr hcrc]
      exact exec_of_executes hex

theorem Executes.keeps_wf {i : Instr} {s t : State} (h : Executes s i t) (hs : Memory.wf s) : Memory.wf t := by
  cases h with
  | writeStored => exact List.length_set.trans hs
  | _ => exact hs

/-- What the checks and the request leave as it was. -/
theorem Checked.frame {s t : State} (h : Checked s t) (hs : Memory.wf s) :
    Memory.wf t ∧ t.par = s.par ∧ t.cfg = s.cfg ∧ t.req = s.req ∧ t.txq = s.txq ∧ t.env = s.env := by
  cases h with
  | foreign => exact ⟨hs, rfl, rfl, rfl, rfl, rfl⟩
  | corrupt => exact ⟨hs, rfl, rfl, rfl, rfl, rfl⟩
  | executed _ _ hex =>
    obtain ⟨hpar, hcfg, -, hreq, -, -, -, -, -, htxq, -, henv, -⟩ := requestFrame _ _ _ (exec_of_executes hex)
    exact ⟨hex.keeps_wf hs, hpar, hcfg, hreq, htxq, henv⟩

/-- The checks and the request have an outcome. -/
theorem exists_checked {s : State} (hs : Memory.wf s) : ∃ t, Checked s t := by
  by_cases haddr : s.req.addr = s.cfg.slaveAddr
  · by_cases hcrc : crc16 (frameBody s.req) = rqCrc s
    · obtain ⟨t, ht⟩ := exists_exec (s := { s with crc := crc16 (frameBody s.req) }) hs (requested s)
      exact ⟨t, .executed haddr hcrc (executes_of_exec ht)⟩
    · exact ⟨_, .corrupt haddr hcrc⟩
  · exact ⟨_, .foreign haddr⟩

/-! ### The end of a tick -/

/-- R128: the sink takes the response, an empty one included. -/
theorem emitResponse_eq (s : State) :
    emitResponse s = { s with txq := s.txq ++ s.resp, k := if 0 < s.resp.length then s.resp.length else s.k } := by
  unfold emitResponse
  by_cases h : 0 < s.resp.length
  · rw [if_pos h, if_pos h]
    rfl
  · have hnil : s.resp = [] := List.length_eq_zero_iff.mp (by omega)
    have htxq : s.txq ++ s.resp = s.txq := by rw [hnil, List.append_nil]
    rw [if_neg h, if_neg h, htxq]

theorem phaseOutput_eq {s : State} {v : Word} (h : s.x[s.cfg.ledIndex]? = some v) :
    phaseOutput s = .next (latchOutcome (setOutput (active v) s)) := by
  rw [phaseOutput, rawRead, h]

/-- R140: active exactly for the value 1. -/
theorem active_eq_true_iff (v : Word) : active v = true ↔ v = 1 := beq_iff_eq

/-- What the bound register holds decides the output (R139, R140). -/
theorem active_iff_getElem? {x : List Word} {j : Nat} {v : Word} (h : x[j]? = some v) :
    active v = true ↔ x[j]? = some 1 := by
  rw [h, Option.some_inj, active_eq_true_iff]

/-- How a tick from `s` ends in `u` that found no frame (R103). -/
structure EndsShort (s u : State) : Prop where
  pc : u.pc = .idle
  done : u.done = true
  rxq : u.rxq = s.rxq
  txq : u.txq = s.txq
  req : u.req = s.req
  outcome : u.outcome = .frameIncomplete
  oorInfo : u.oorInfo = 0
  x : u.x = (tickStart s).x
  dout : u.dout = true ↔ (tickStart s).x[s.shadow.ledIndex]? = some 1

theorem tick_short_spec {s : State} (hs : Inv s) (h : s.rxq.length < 8) : ∃ u, tick s = .next u ∧ EndsShort s u := by
  obtain ⟨hstart, -⟩ := tickStart_spec hs
  obtain ⟨-, -, -, hled, -⟩ := hs
  obtain ⟨v, hv⟩ := exists_getElem?_of_wf hstart hled
  have htick := (tick_of_short h).trans (phaseOutput_eq (s := raiseEvent .frameIncomplete 0 .output (tickStart s)) hv)
  exact ⟨_, htick, rfl, rfl, rfl, rfl, rfl, rfl, rfl, rfl, active_iff_getElem? hv⟩

/-- How a tick from `s` ends in `u` that found the frame `f`, when the checks and the request led to `t` (R128, R136,
R139). -/
structure EndsFrame (s : State) (f : Frame) (t u : State) : Prop where
  pc : u.pc = .idle
  done : u.done = true
  rxq : u.rxq = []
  txq : u.txq = s.txq ++ t.resp
  req : u.req = f
  crc : u.crc = t.crc
  outcome : u.outcome = t.out
  oorInfo : u.oorInfo = t.outInfo
  x : u.x = t.x
  dout : u.dout = true ↔ t.x[s.shadow.ledIndex]? = some 1

theorem tick_frame_spec {s t : State} {f : Frame} {rest : List Byte} (hs : Inv s) (hq : s.rxq = frameBytes f ++ rest)
    (ht : Checked (tickTaken s f rest) t) : ∃ u, tick s = .next u ∧ EndsFrame s f t u := by
  obtain ⟨hstart, -⟩ := tickStart_spec hs
  obtain ⟨-, -, -, hled, -⟩ := hs
  obtain ⟨hmem, hpar, hcfg, hreq, htxq, -⟩ := ht.frame (s := tickTaken s f rest) hstart
  have hledt : t.cfg.ledIndex = s.shadow.ledIndex := congrArg EngineConfig.ledIndex hcfg
  obtain ⟨v, hv⟩ := exists_getElem?_of_wf hmem (a := s.shadow.ledIndex) (by rw [hpar]; exact hled)
  have hbound : (drainAll (emitResponse t)).x[(drainAll (emitResponse t)).cfg.ledIndex]? = some v := by
    rw [emitResponse_eq]
    exact (congrArg (t.x[·]?) hledt).trans hv
  have htick : tick s = .next (latchOutcome (setOutput (active v) (drainAll (emitResponse t)))) := by
    rw [tick_of_frame hq, checkAndExecute_eq_next_iff.mpr ht]
    exact phaseOutput_eq hbound
  refine ⟨_, htick, ?_⟩
  rw [emitResponse_eq]
  exact ⟨rfl, rfl, rfl, congrArg (· ++ t.resp) htxq, hreq, rfl, rfl, rfl, rfl, active_iff_getElem? hv⟩

/-- A stream begins with one frame only. -/
theorem frameBytes_append_inj {f g : Frame} {p q : List Byte} (h : frameBytes f ++ p = frameBytes g ++ q) :
    f = g ∧ p = q := by
  have hf := takeFrame_frameBytes f p
  rw [h, takeFrame_frameBytes] at hf
  cases hf
  exact ⟨rfl, rfl⟩

end Sys2Proof.Machine
end

section
/-! Whole ticks, by what they find in the receive queue (spec/45_polling_loop_fsm.md R131, spec/60_exceptions.md
R165). -/

namespace Sys2Proof.Machine

/-- The state in which a tick runs the request it has taken and checked (R106, R111). -/
def tickChecked (s : State) (f : Frame) (rest : List Byte) : State :=
  { tickTaken s f rest with crc := crc16 (frameBody f) }

theorem checked_foreign {s : State} {f : Frame} (rest : List Byte) (haddr : f.addr ≠ s.shadow.slaveAddr) :
    Checked (tickTaken s f rest) (raiseEvent .addressMismatch 0 .drain (tickTaken s f rest)) :=
  .foreign haddr

theorem checked_corrupt {s : State} {f : Frame} (rest : List Byte) (haddr : f.addr = s.shadow.slaveAddr)
    (hcrc : crcVerify (frameBytes f) 6 = some false) :
    Checked (tickTaken s f rest) (raiseEvent .crcMismatch 0 .drain (tickChecked s f rest)) :=
  .corrupt haddr ((crcVerify_eq_false_iff f).mp hcrc)

theorem checked_executed {s t : State} {f : Frame} {rest : List Byte} (haddr : f.addr = s.shadow.slaveAddr)
    (hcrc : crcVerify (frameBytes f) 6 = some true) (h : Executes (tickChecked s f rest) (decodeInstr f) t) :
    Checked (tickTaken s f rest) t :=
  .executed haddr ((crcVerify_eq_true_iff f).mp hcrc) h

/-- R71: the frame of a well-formed request passes the CRC check and stands for that request. -/
theorem encode_of_wf {r : Request} (h : r.wf = true) :
    crcVerify (frameBytes (encode r)) 6 = some true ∧ decodeInstr (encode r) = r.instr := by
  obtain ⟨hcrc, hread⟩ := (Request.wf_iff r).mp h
  exact ⟨(crcRight_iff_crcVerify_encode r).mp hcrc, congrArg Request.instr (decodeFrame_encode hread)⟩

/-- A well-formed request for this address is executed as such. -/
theorem checked_request {s t : State} {r : Request} {rest : List Byte} (hwf : r.wf = true)
    (haddr : r.addr = s.shadow.slaveAddr) (h : Executes (tickChecked s (encode r) rest) r.instr t) :
    Checked (tickTaken s (encode r) rest) t := by
  obtain ⟨hcrc, hinstr⟩ := encode_of_wf hwf
  exact checked_executed haddr hcrc (hinstr ▸ h)

/-- R163: the two causes of a rejected Read, as a number. -/
theorem oorBits_toNat (cap store : Bool) :
    (oorBits cap store).toNat = (if store = true then 1 else 0) + (if cap = true then 2 else 0) := by
  cases cap <;> cases store <;> rfl

/-- R113, R126, R163: the event, the bytes and the information of a Read, from the numbers in its frame. -/
theorem executes_read_event {s t : State} {f : Frame} {rest : List Byte} {P1 P2 : Nat} (hfunc : f.func = 0x03)
    (hP1 : (join f.p1Hi f.p1Lo).toNat = P1) (hP2 : (join f.p2Hi f.p2Lo).toNat = P2)
    (h : Executes (tickChecked s f rest) (decodeInstr f) t) :
    if P1 + P2 > s.par.registerCount ∨ P2 > s.par.maxReadCount then
      t.out = .outOfRangeRead ∧ s.txq ++ t.resp = s.txq ∧
        t.outInfo.toNat =
          (if P1 + P2 > s.par.registerCount then 1 else 0) + (if P2 > s.par.maxReadCount then 2 else 0)
    else
      t.out = .readOk ∧ (s.txq ++ t.resp).length = s.txq.length + 5 + 2 * P2 ∧ t.outInfo = 0 := by
  rw [decodeInstr_of_func_read hfunc] at h
  subst hP1 hP2
  cases h with
  | readRejected hr =>
    rw [if_pos (by exact hr)]
    refine ⟨rfl, List.append_nil _, (oorBits_toNat _ _).trans ?_⟩
    simp only [overStore, overCap, decide_eq_true_eq]
    rfl
  | @readAccepted _ _ vals hstore hcap hvals =>
    have haccepted : ¬((join f.p1Hi f.p1Lo).toNat + (join f.p2Hi f.p2Lo).toNat > s.par.registerCount ∨
        (join f.p2Hi f.p2Lo).toNat > s.par.maxReadCount) :=
      not_or.mpr ⟨Nat.not_lt.mpr hstore, Nat.not_lt.mpr hcap⟩
    obtain ⟨hlen, -⟩ := memRead_eq_some hvals
    rw [if_neg haccepted]
    refine ⟨rfl, ?_, rfl⟩
    rw [List.length_append, Nat.add_assoc, ← hlen]
    exact congrArg (s.txq.length + ·) (encodeRead_resp_length _ _ vals (tickChecked s f rest))
  | ignored hi => simp at hi

/-- R115, R116: the event and the echo of a Write, from the address in its frame. -/
theorem executes_write_event {s t : State} {f : Frame} {rest : List Byte} {P1 : Nat} (hfunc : f.func = 0x06)
    (hP1 : (join f.p1Hi f.p1Lo).toNat = P1) (h : Executes (tickChecked s f rest) (decodeInstr f) t) :
    t.out = (if P1 < s.par.registerCount then .writeOk else .writeOutOfRangeAck) ∧
      s.txq ++ t.resp = s.txq ++ frameBytes f ∧ t.outInfo = 0 := by
  rw [decodeInstr_of_func_write hfunc] at h
  subst hP1
  cases h with
  | writeStored hlt =>
    rw [if_pos (by exact hlt)]
    exact ⟨rfl, rfl, rfl⟩
  | writeOutOfRange hge =>
    rw [if_neg (Nat.not_lt.mpr (by exact hge))]
    exact ⟨rfl, rfl, rfl⟩
  | ignored hi => simp at hi

end Sys2Proof.Machine

namespace Sys2Proof

open Machine

/-- Settles O50. -/
theorem partialFrameIsLeftAlone : Obligations.PartialFrameIsLeftAlone := by
  intro s hs _ hlen
  obtain ⟨-, hx⟩ := tickStart_spec hs
  obtain ⟨u, htick, hu⟩ := tick_short_spec hs hlen
  obtain ⟨-, -, -, hled, -⟩ := hs
  refine ⟨u, htick, hu.outcome, hu.rxq, hu.txq, hu.req, fun j hj => ?_, ?_⟩
  · rw [hu.x, hx j hj]
  · rw [hu.dout, hx _ hled]

/-- Settles O51: the address test comes first and ends in the drain. -/
theorem foreignFrameIsDroppedSilently : Obligations.ForeignFrameIsDroppedSilently := by
  intro s f rest hs _ hq haddr
  obtain ⟨-, hx⟩ := tickStart_spec hs
  obtain ⟨u, htick, hu⟩ := tick_frame_spec hs hq (checked_foreign rest haddr)
  exact ⟨u, htick, hu.outcome, hu.txq.trans (List.append_nil _), hu.rxq, hu.crc,
    fun j hj => by rw [hu.x]; exact hx j hj⟩

/-- Settles O52: the CRC test ends in the drain before the function code is looked at. -/
theorem corruptFrameIsDroppedSilently : Obligations.CorruptFrameIsDroppedSilently := by
  intro s f rest hs _ hq haddr hcrc
  obtain ⟨-, hx⟩ := tickStart_spec hs
  obtain ⟨u, htick, hu⟩ := tick_frame_spec hs hq (checked_corrupt rest haddr hcrc)
  exact ⟨u, htick, hu.outcome, hu.txq.trans (List.append_nil _), hu.rxq, fun j hj => by rw [hu.x]; exact hx j hj⟩

/-- Settles O53: an operation with any other code interprets no operands and is ignored. -/
theorem unsupportedTickIsSilent : Obligations.UnsupportedTickIsSilent := by
  intro s r rest hs _ hwf hread hwrite haddr hq
  obtain ⟨-, hx⟩ := tickStart_spec hs
  have hex := Executes.ignored (s := tickChecked s (encode r) rest) (interprets_eq_false_of_func_ne hread hwrite)
  obtain ⟨u, htick, hu⟩ := tick_frame_spec hs hq (checked_request hwf haddr hex)
  exact ⟨u, htick, hu.outcome, hu.oorInfo, hu.txq.trans (List.append_nil _), hu.rxq, congrArg Frame.func hu.req,
    fun j hj => by rw [hu.x]; exact hx j hj⟩

/-- Settles O54: the Read answers with a stretch of the refreshed registers. -/
theorem readTickAnswersFreshValues : Obligations.ReadTickAnswersFreshValues := by
  intro s r start count rest hs _ hwf hinstr haddr hq hstore hcap
  obtain ⟨hmem, hx⟩ := tickStart_spec hs
  obtain ⟨hlen, hget⟩ := take_drop_registers hmem (a := start.toNat) (n := count.toNat) hstore
  have hvals := memRead_of_le (s := tickChecked s (encode r) rest) hmem (a := start.toNat) (n := count.toNat) hstore
  have hex := Executes.readAccepted (s := tickChecked s (encode r) rest) hstore hcap hvals
  rw [← hinstr] at hex
  obtain ⟨u, htick, hu⟩ := tick_frame_spec hs hq (checked_request hwf haddr hex)
  refine ⟨u, _, htick, hlen, fun j hj => ?_, ?_, hu.outcome, hu.rxq, fun j hj => by rw [hu.x]; exact hx j hj⟩
  · rw [hget j hj, hx _ (by omega)]
  · rw [hu.txq, haddr]
    exact (List.append_assoc _ _ _).symm

/-- Settles O55: the Write changes the register it names, and the output is projected from the changed file. -/
theorem writeTickStoresEchoesAndProjects : Obligations.WriteTickStoresEchoesAndProjects := by
  intro s r reg value rest hs _ hwf hinstr haddr hq hreg
  obtain ⟨hmem, hx⟩ := tickStart_spec hs
  have hex := Executes.writeStored (s := tickChecked s (encode r) rest) (value := value) hreg
  rw [← hinstr] at hex
  obtain ⟨u, htick, hu⟩ := tick_frame_spec hs hq (checked_request hwf haddr hex)
  obtain ⟨-, -, -, hled, -⟩ := hs
  obtain ⟨hself, hother⟩ := getElem?_set_of_wf hmem hreg value
  have hstored (j : Nat) (hj : j < s.par.registerCount) :
      ((tickStart s).x.set reg.toNat value)[j]? = if j = reg.toNat then some value else dispatched s j := by
    split
    · next heq => rw [heq, hself]
    · next hne => rw [hother j hne, hx j hj]
  refine ⟨u, htick, hu.txq, hu.outcome, hu.rxq, fun j hj => by rw [hu.x]; exact hstored j hj, ?_⟩
  rw [hu.dout, ← dispatched_of_bound hled, ← hstored _ hled]
  rfl

/-- Settles O56: the tests come in the order of R165, and each outcome of the checks and the request has its event. -/
theorem everyTickEndsWithTheFirstEventThatApplies : Obligations.EveryTickEndsWithTheFirstEventThatApplies := by
  intro s hs _
  obtain ⟨hmem, -⟩ := tickStart_spec hs
  rcases Nat.lt_or_ge s.rxq.length 8 with hlen | hlen
  · obtain ⟨u, htick, hu⟩ := tick_short_spec hs hlen
    refine ⟨u, htick, hu.pc, hu.done, fun _ => ⟨hu.outcome, hu.rxq, hu.txq, hu.oorInfo⟩, fun f rest hq => ?_⟩
    rw [hq, List.length_append, frameBytes_length] at hlen
    omega
  obtain ⟨f, rest, hq⟩ := exists_eq_frameBytes_append hlen
  obtain ⟨t, ht⟩ := exists_checked (s := tickTaken s f rest) hmem
  obtain ⟨u, htick, hu⟩ := tick_frame_spec hs hq ht
  refine ⟨u, htick, hu.pc, hu.done, fun hshort => by omega, fun g rest' hq' => ?_⟩
  obtain ⟨rfl, rfl⟩ := frameBytes_append_inj (hq.symm.trans hq')
  refine ⟨hu.rxq, hu.req, ?_⟩
  rw [hu.outcome, hu.txq, hu.oorInfo]
  intro P1 P2
  cases ht with
  | foreign haddr =>
    rw [if_pos (by exact haddr)]
    exact ⟨rfl, List.append_nil _, rfl⟩
  | corrupt haddr hcrc =>
    have hfails : crcVerify (frameBytes f) 6 ≠ some true := fun h => hcrc ((crcVerify_eq_true_iff f).mp h)
    rw [if_neg (not_not.mpr (by exact haddr)), if_pos hfails]
    exact ⟨rfl, List.append_nil _, rfl⟩
  | executed haddr hcrc hex =>
    have hpasses : crcVerify (frameBytes f) 6 = some true := (crcVerify_eq_true_iff f).mpr hcrc
    rw [if_neg (not_not.mpr (by exact haddr)), if_neg (not_not.mpr hpasses)]
    by_cases hread : f.func = 0x03
    · rw [if_pos hread]
      exact executes_read_event hread (join_toNat _ _) (join_toNat _ _) hex
    · rw [if_neg hread]
      by_cases hwrite : f.func = 0x06
      · rw [if_pos hwrite]
        exact executes_write_event hwrite (join_toNat _ _) hex
      · rw [if_neg hwrite]
        cases hex.unique (.ignored (decodeInstr_not_interprets hread hwrite))
        exact ⟨rfl, List.append_nil _, rfl⟩

end Sys2Proof
end

section
/-! Refinement: the steps of a tick, one phase after the other, lead to the state of the whole-tick function
(spec/45_polling_loop_fsm.md R130, R131). -/

namespace Sys2Proof.Machine

/-- Some number of steps leads from `s` to `t`. -/
def Reaches (s t : State) : Prop := ∃ n, run n s = .next t

theorem Reaches.trans {s t u : State} (hst : Reaches s t) (htu : Reaches t u) : Reaches s u := by
  obtain ⟨m, hm⟩ := hst
  obtain ⟨n, hn⟩ := htu
  exact ⟨m + n, (run_add hm n).trans hn⟩

theorem reaches_of_step {s t : State} (h : step s = .next t) : Reaches s t := ⟨1, run_next h⟩

theorem reaches_of_phaseStep {s t : State} (henv : s.env = []) (h : PhaseStep false s t) : Reaches s t :=
  reaches_of_step (step_of_phaseStep henv h)

/-! ### What does not depend on the phase -/

theorem memRead_gotoPhase (p : Phase) (s : State) (a n : Nat) : memRead (gotoPhase p s) a n = memRead s a n := by
  induction n generalizing a with
  | zero => rfl
  | succ n ih =>
    rw [memRead, memRead, ih]
    rfl

/-- A request looks at no phase and sets the next one. -/
theorem Executes.of_gotoPhase {i : Instr} {s t : State} (h : Executes s i t) (p : Phase) :
    Executes (gotoPhase p s) i t := by
  cases h with
  | readRejected hr => exact .readRejected hr
  | readAccepted hstore hcap hvals => exact .readAccepted hstore hcap ((memRead_gotoPhase p s _ _).trans hvals)
  | writeStored hlt => exact .writeStored hlt
  | writeOutOfRange hge => exact .writeOutOfRange hge
  | ignored hi => exact .ignored hi

theorem phaseOutput_gotoPhase (p : Phase) (s : State) : phaseOutput (gotoPhase p s) = phaseOutput s := by
  unfold phaseOutput
  rw [rawRead, rawRead, gotoPhase_x, gotoPhase_cfg]
  cases s.x[s.cfg.ledIndex]? <;> rfl

/-! ### The phases of a tick -/

/-- `IDLE` with `tick`, then `REFRESH` (R131, R132). -/
theorem reaches_gate {s : State} (hpc : s.pc = .idle) (henv : s.env = []) :
    Reaches { s with env := [{ PortIn.idle with tick := true }] } (gotoPhase .gate (tickStart s)) := by
  have hidle : step { s with env := [{ PortIn.idle with tick := true }] } =
      .next { s with done := false, pc := .refresh } := by
    have hrow : PhaseStep true (seen { s with env := [{ PortIn.idle with tick := true }] })
        { s with done := false, pc := .refresh } := by
      have hseen : seen { s with env := [{ PortIn.idle with tick := true }] } = s := by
        cases s
        simp_all [seen, portsNow, takePorts, arrive, PortIn.idle]
      rw [hseen]
      exact .idle hpc
    exact step_eq_next_iff.mpr ⟨by cases h : s.par.rxCap <;> simp [hasRoom, h, portsNow, PortIn.idle],
      .inr ⟨rfl, _, hrow, rfl⟩⟩
  exact (reaches_of_step hidle).trans (reaches_of_phaseStep henv (.refreshed rfl))

/-- `GATE` with a frame buffered, then `CONSUME` (R103, R104). -/
theorem reaches_checkAddr {s : State} {f : Frame} {rest : List Byte} (henv : s.env = [])
    (hq : s.rxq = frameBytes f ++ rest) :
    Reaches (gotoPhase .gate (tickStart s)) (gotoPhase .checkAddr (tickTaken s f rest)) := by
  have hlen : 8 ≤ (gotoPhase .gate (tickStart s)).rxq.length := by
    show 8 ≤ s.rxq.length
    rw [hq, List.length_append, frameBytes_length]
    omega
  have hgate := reaches_of_phaseStep (s := gotoPhase .gate (tickStart s)) henv (.frameWaits rfl hlen)
  exact hgate.trans ⟨8, consumeTakesTheEightOldestBytes _ f rest rfl rfl henv hq⟩

/-- `CHECK_ADDR`, `CHECK_CRC`, `DISPATCH` and the phase of the request (R105, R106, R111). -/
theorem reaches_of_checked {s t : State} (henv : s.env = []) (h : Checked s t) :
    Reaches (gotoPhase .checkAddr s) t := by
  cases h with
  | foreign haddr => exact reaches_of_phaseStep (s := gotoPhase .checkAddr s) henv (.addrDiffers rfl haddr)
  | corrupt haddr hcrc =>
    exact (reaches_of_phaseStep (s := gotoPhase .checkAddr s) henv (.addrMatches rfl haddr)).trans
      (reaches_of_phaseStep (s := gotoPhase .checkCrc s) henv (.crcDiffers rfl hcrc))
  | executed haddr hcrc hex =>
    have haddrRow := reaches_of_phaseStep (s := gotoPhase .checkAddr s) henv (.addrMatches rfl haddr)
    have hcrcRow := reaches_of_phaseStep (s := gotoPhase .checkCrc s) henv (.crcMatches rfl hcrc)
    refine (haddrRow.trans hcrcRow).trans ?_
    generalize hc : ({ s with crc := crc16 (frameBody s.req) } : State) = c at hex
    have hstart : ({ gotoPhase .dispatch (gotoPhase .checkCrc s) with
        crc := crc16 (frameBody (gotoPhase .checkCrc s).req) } : State) = gotoPhase .dispatch c := by rw [← hc]; rfl
    have henvc : c.env = [] := by rw [← hc]; exact henv
    have hreq : requested s = requested c := by rw [← hc]; rfl
    rw [hstart]
    rw [hreq] at hex
    obtain ⟨hf, -⟩ | ⟨hf, -⟩ | ⟨hread, hwrite, -⟩ := phaseDispatch_cases c
    · exact (reaches_of_phaseStep (s := gotoPhase .dispatch c) henvc (.selectsRead rfl hf)).trans
        (reaches_of_phaseStep (s := gotoPhase .execRead c) henvc (.executed (.inl rfl) (hex.of_gotoPhase .execRead)))
    · exact (reaches_of_phaseStep (s := gotoPhase .dispatch c) henvc (.selectsWrite rfl hf)).trans
        (reaches_of_phaseStep (s := gotoPhase .execWrite c) henvc (.executed (.inr rfl) (hex.of_gotoPhase .execWrite)))
    · rw [hex.unique (.ignored (requested_not_interprets hread hwrite))]
      exact reaches_of_phaseStep (s := gotoPhase .dispatch c) henvc (.selectsNothing rfl hread hwrite)

/-- What `EMIT` or `DRAIN` finds: a response to send from its first byte on, or none (R146). -/
theorem Checked.response {s t : State} (h : Checked s t) (hresp : s.resp = []) :
    (t.pc = .drain ∧ t.resp = []) ∨ (t.pc = .emit ∧ t.k = 0 ∧ t.resp ≠ []) := by
  cases h with
  | foreign => exact .inl ⟨rfl, hresp⟩
  | corrupt => exact .inl ⟨rfl, hresp⟩
  | executed _ _ hex =>
    generalize requested s = i at hex
    cases hex with
    | readRejected => exact .inl ⟨rfl, hresp⟩
    | ignored => exact .inl ⟨rfl, hresp⟩
    | readAccepted => exact .inr ⟨rfl, rfl, List.cons_ne_nil _ _⟩
    | writeStored => exact .inr ⟨rfl, rfl, List.cons_ne_nil _ _⟩
    | writeOutOfRange => exact .inr ⟨rfl, rfl, List.cons_ne_nil _ _⟩

/-- `EMIT` and `DRAIN` (R128, R136). -/
theorem reaches_output {t : State} (henv : t.env = [])
    (h : (t.pc = .drain ∧ t.resp = []) ∨ (t.pc = .emit ∧ t.k = 0 ∧ t.resp ≠ [])) :
    Reaches t (gotoPhase .output (drainAll (emitResponse t))) := by
  obtain ⟨hpc, hresp⟩ | ⟨hpc, hk, hresp⟩ := h
  · have hempty : emitResponse t = t := by rw [emitResponse, hresp]; rfl
    rw [hempty]
    exact ⟨_, run_drain hpc henv⟩
  · have hpos : 0 < t.resp.length := List.length_pos_iff.mpr hresp
    have hemit : Reaches t (gotoPhase .drain (emitResponse t)) := by
      refine ⟨_, (emitHandsOverTheWholeResponse t hpc hk henv hresp).trans ?_⟩
      rw [emitResponse, if_pos hpos]
      rfl
    have henv' : (gotoPhase .drain (emitResponse t)).env = [] := by rw [emitResponse_eq]; exact henv
    exact hemit.trans ⟨_, run_drain rfl henv'⟩

/-- `OUTPUT` (R139). -/
theorem reaches_of_phaseOutput {t u : State} (henv : t.env = []) (h : phaseOutput t = .next u) :
    Reaches (gotoPhase .output t) u := by
  refine reaches_of_step ((step_of_no_input (s := gotoPhase .output t) henv).trans ?_)
  exact (phaseOutput_gotoPhase .output t).trans h

/-- From `GATE` on the steps lead to the end of the whole-tick function, with or without a frame. -/
theorem reaches_tick {s u : State} (hs : Inv s) (henv : s.env = []) (h : tick s = .next u) :
    Reaches (gotoPhase .gate (tickStart s)) u := by
  obtain ⟨hstart, -⟩ := tickStart_spec hs
  rcases Nat.lt_or_ge s.rxq.length 8 with hlen | hlen
  · rw [tick_of_short hlen] at h
    exact (reaches_of_phaseStep (s := gotoPhase .gate (tickStart s)) henv (.frameIncomplete rfl hlen)).trans
      (reaches_of_phaseOutput (t := raiseEvent .frameIncomplete 0 .output (tickStart s)) henv h)
  · obtain ⟨f, rest, hq⟩ := exists_eq_frameBytes_append hlen
    rw [tick_of_frame hq, thenDo_eq_next] at h
    obtain ⟨t, ht, hout⟩ := h
    rw [checkAndExecute_eq_next_iff] at ht
    have henvt : t.env = [] := by
      obtain ⟨-, -, -, -, -, htenv⟩ := ht.frame hstart
      exact htenv.trans henv
    have henvEnd : (drainAll (emitResponse t)).env = [] := by rw [emitResponse_eq]; exact henvt
    have hexec := (reaches_checkAddr henv hq).trans (reaches_of_checked (s := tickTaken s f rest) henv ht)
    exact (hexec.trans (reaches_output henvt (ht.response rfl))).trans (reaches_of_phaseOutput henvEnd hout)

end Sys2Proof.Machine

namespace Sys2Proof

open Machine

/-- Settles O49: the whole-tick function answers, and the phases lead to its answer one after the other. -/
theorem phasesRefineTheWholeTick : Obligations.PhasesRefineTheWholeTick := by
  intro s hs hpc henv
  obtain ⟨u, htick, -⟩ := everyTickEndsWithTheFirstEventThatApplies s hs hpc
  obtain ⟨n, hrun⟩ := (reaches_gate hpc henv).trans (reaches_tick hs henv htick)
  exact ⟨n, u, htick, hrun⟩

end Sys2Proof
end
